-- ==== Sys2Proof/Word.lean ====
section
/-! DEFINITION. The widths of the values the block handles (00_scope.md R7, R8; 10_state.md R23 to R46). -/

namespace Sys2Proof

/-- A buffer byte, a command byte, a response byte, an 8-bit register. -/
abbrev Byte := BitVec 8

/-- Half a byte, what one symbol carries (00_scope.md R13). -/
abbrev Nibble := BitVec 4

/-- A 6-bit transmission unit (30_encoding.md R87). -/
abbrev Symbol := BitVec 6

/-- The 12-bit window of recovered bits (10_state.md R38). -/
abbrev Window := BitVec 12

/-- The CRC register (41_crc.md R120). -/
abbrev Crc := BitVec 16

end Sys2Proof
end

