-- ==== Sys2Proof/Syntax.lean ====
section
/-! DEFINITION. The nine host commands (30_encoding.md R81): one constructor per row of spec/opcode_table.json. -/

namespace Sys2Proof

/-- A host command with its operands. The bits the spec calls ignored (30_encoding.md R85) are operands too, so that an
instruction says every bit of its word. -/
inductive Instr where
  /-- `SEND [b0, …]`: the payload bytes; `len = imm8` is how many there are (30_encoding.md R80, R82). -/
  | send (data : List Byte)
  /-- `TX_START`, `imm8` ignored. -/
  | txStart (imm8 : Byte)
  /-- `TX_STOP`, `imm8` ignored. -/
  | txStop (imm8 : Byte)
  /-- `RX_START`, `imm8` ignored. -/
  | rxStart (imm8 : Byte)
  /-- `RX_STOP`, `imm8` ignored. -/
  | rxStop (imm8 : Byte)
  /-- `HAVE_MESSAGE`, `imm8` ignored. -/
  | haveMessage (imm8 : Byte)
  /-- `GET_MESSAGE max_len`. -/
  | getMessage (maxLen : Byte)
  /-- `SET_PTT_INVERTED inv`: `imm8[7:1]` ignored, `inv = imm8[0]`. -/
  | setPttInverted (ignored : BitVec 7) (inv : BitVec 1)
  /-- `READ_STATUS sel`. -/
  | readStatus (sel : Byte)
deriving DecidableEq, Repr

end Sys2Proof
end

