-- ==== Sys2Proof/WellFormed.lean ====
section
/-! DEFINITION. Which instructions have an encoding (30_encoding.md R82). -/

namespace Sys2Proof

/-- SEND's length is an 8-bit operand, 0 to 255; every value of every other operand has a spelling (30_encoding.md R82,
R85). A length of 28 to 255 is well-formed: SEND itself rejects it (46_host_commands.md R211). -/
def Instr.wellFormed : Instr → Bool
  | .send data => decide (data.length < 256)
  | .txStart _ => true
  | .txStop _ => true
  | .rxStart _ => true
  | .rxStop _ => true
  | .haveMessage _ => true
  | .getMessage _ => true
  | .setPttInverted _ _ => true
  | .readStatus _ => true

end Sys2Proof
end

