-- ==== Sys2Proof/Decode.lean ====
section
/-! DEFINITION. The command word (30_encoding.md R80 to R86): the decoder, total on any bytes, and after it the encoder. -/

namespace Sys2Proof

/-- The nine opcodes of 30_encoding.md R81. -/
inductive Opcode where
  | send | txStart | txStop | rxStart | rxStop | haveMessage | getMessage | setPttInverted | readStatus
deriving DecidableEq, Repr

/-- The opcode map's rows (30_encoding.md R81). -/
def opcodeTable : List (Byte × Opcode) :=
  [(0x01, .send), (0x02, .txStart), (0x03, .txStop), (0x04, .rxStart), (0x05, .rxStop),
   (0x06, .haveMessage), (0x07, .getMessage), (0x08, .setPttInverted), (0x09, .readStatus)]

/-- The opcode a word's `op` field names, none for a reserved one (30_encoding.md R84). -/
def opcodeOf (op : Byte) : Option Opcode :=
  (opcodeTable.find? fun row => row.1 == op).map Prod.snd

/-- Why bytes are no command. -/
inductive DecodeError where
  /-- A reserved opcode: 0x00 or 0x0A to 0xFF (30_encoding.md R84). Its word is two bytes long (R86). -/
  | reservedOpcode (op imm8 : Byte)
  /-- The word, or SEND's data, has not all come (log entry 4). -/
  | incomplete
deriving DecidableEq, Repr

/-- The command whose opcode and `imm8` are given, read with its data bytes from the front of `rest`, and what follows
it. `op` and `imm8` are bits [15:8] and [7:0] of the word; only SEND has data bytes, `imm8` of them (30_encoding.md R80,
R82). -/
def decodeOperands (o : Opcode) (imm8 : Byte) (rest : List Byte) : Except DecodeError (Instr × List Byte) :=
  match o with
  | .send =>
    if imm8.toNat ≤ rest.length then .ok (.send (rest.take imm8.toNat), rest.drop imm8.toNat)
    else .error .incomplete
  | .txStart => .ok (.txStart imm8, rest)
  | .txStop => .ok (.txStop imm8, rest)
  | .rxStart => .ok (.rxStart imm8, rest)
  | .rxStop => .ok (.rxStop imm8, rest)
  | .haveMessage => .ok (.haveMessage imm8, rest)
  | .getMessage => .ok (.getMessage imm8, rest)
  | .setPttInverted => .ok (.setPttInverted (imm8.extractLsb' 1 7) (imm8.extractLsb' 0 1), rest)
  | .readStatus => .ok (.readStatus imm8, rest)

/-- The first command of a byte sequence and the bytes after it. The word comes high byte first (30_encoding.md R86). -/
def decode : List Byte → Except DecodeError (Instr × List Byte)
  | op :: imm8 :: rest =>
    match opcodeOf op with
    | some o => decodeOperands o imm8 rest
    | none => .error (.reservedOpcode op imm8)
  | _ => .error .incomplete

/-- The bytes of a command (30_encoding.md R80, R81, R86, R94). -/
def encode : Instr → List Byte
  | .send data => 0x01 :: BitVec.ofNat 8 data.length :: data
  | .txStart imm8 => [0x02, imm8]
  | .txStop imm8 => [0x03, imm8]
  | .rxStart imm8 => [0x04, imm8]
  | .rxStop imm8 => [0x05, imm8]
  | .haveMessage imm8 => [0x06, imm8]
  | .getMessage maxLen => [0x07, maxLen]
  | .setPttInverted ignored inv => [0x08, (ignored ++ inv : BitVec 8)]
  | .readStatus sel => [0x09, sel]

/-- How many bytes the command at the front of a byte sequence has: `2 + imm8` for SEND, 2 for every other opcode, the
reserved ones too (30_encoding.md R86). -/
def commandLength : List Byte → Nat
  | op :: imm8 :: _ => if op = 0x01 then 2 + imm8.toNat else 2
  | _ => 2

/-- Byte `j` of an instruction whose bits are `w`, numbered as spec/opcode_table.json numbers them: 16-bit words, the
first one's bit 0 the least significant, each word's high byte first (30_encoding.md R86; log entry 19). -/
def tableByte (w j : Nat) : Byte :=
  BitVec.ofNat 8 (w >>> (16 * (j / 2) + if j % 2 = 0 then 8 else 0))

/-- The bytes of the instruction whose first `nbits` bits are `w` and whose other bits are 0, as many as its word says. -/
def tableBytes (nbits w : Nat) : List Byte :=
  let byte := tableByte (w % 2 ^ nbits)
  (List.range (commandLength [byte 0, byte 1])).map byte

/-- The instruction the decoder reads from a table row's bits. -/
def decodeTableWord (nbits w : Nat) : Option Instr :=
  match decode (tableBytes nbits w) with
  | .ok (i, _) => some i
  | .error _ => none

end Sys2Proof
end

