-- ==== Sys2Proof/Config.lean ====
section
/-! DEFINITION. The parameters the spec leaves to the implementation (00_scope.md R6). The values the spec fixes or
decides are in Machine/Params.lean. -/

namespace Sys2Proof

/-- The parameters a rule reads. A state carries one (`State.config`), no step writes it, and a statement over every
state is a statement over every value of them (log entries 8 and 9). -/
structure Config where
  /-- SYMBOL_TABLE, indexed by nibble (10_state.md R49, 40_symbol_codec.md R110). -/
  symbolTable : Vector Symbol 16
  /-- STRICT_SYMBOL_CHECK (45_rx_state_machine.md R194). -/
  strictSymbolCheck : Bool
deriving DecidableEq, Repr

/-- How many 1-bits a symbol has. -/
def symbolWeight (s : Symbol) : Nat :=
  (List.range 6).countP fun k => s.getLsbD k

/-- The tables a model admits: three 1-bits in each entry and no entry twice (40_symbol_codec.md R110 (b), (c); (a) is
the type, (d) is that no step writes `State.config`). -/
abbrev Config.Admissible (c : Config) : Prop :=
  (∀ s ∈ c.symbolTable.toList, symbolWeight s = 3) ∧ c.symbolTable.toList.Nodup

/-- BIT_RATE, in bits per second: a platform parameter with no value and no reader (47_tick.md R243; log entry 10). -/
opaque bitRate : Nat

/-- The rate of the tick strobe, in ticks per second (47_tick.md R243, R244). Read by no rule. -/
def tickRate : Nat := 8 * bitRate

end Sys2Proof
end

