-- ==== Sys2Proof/Machine/Params.lean ====
section
/-! DEFINITION. The values the spec fixes (00_scope.md R5), those it decides and the parameters' defaults (R6). -/

namespace Sys2Proof.Machine

/-- MAX_MESSAGE_LEN: the receive buffer's bytes and the largest `count`. -/
abbrev maxMessageLen : Nat := 30

/-- MAX_PAYLOAD = MAX_MESSAGE_LEN − 3. -/
abbrev maxPayload : Nat := 27

/-- MIN_COUNT. -/
abbrev minCount : Nat := 4

/-- HEADER_LEN. -/
abbrev headerLen : Nat := 8

/-- TX_BUF_LEN = 2 · MAX_MESSAGE_LEN + HEADER_LEN. -/
abbrev txBufLen : Nat := 68

/-- The bytes of `TxBuf[0..7]`: the preamble and the start symbol (10_state.md R26). -/
def header : List Byte := [0x2A, 0x2A, 0x2A, 0x2A, 0x2A, 0x2A, 0x38, 0x2C]

/-- SYMBOL_BITS. -/
abbrev symbolBits : Nat := 6

/-- RAMP_LEN, the ramp's ceiling (44_pll.md R170). -/
abbrev rampLen : Byte := 160

/-- RAMP_INC (44_pll.md R170). -/
abbrev rampInc : Byte := 20

/-- RAMP_INC_RETARD (44_pll.md R170). -/
abbrev rampIncRetard : Byte := 11

/-- RAMP_INC_ADVANCE (44_pll.md R170). -/
abbrev rampIncAdvance : Byte := 29

/-- RAMP_TRANSITION: the first half of the ramp is below it (44_pll.md R170). -/
abbrev rampTransition : Byte := 80

/-- INTEGRATOR_THRESHOLD (44_pll.md R174). -/
abbrev integratorThreshold : Byte := 5

/-- BIT_WINDOW_BITS: a byte is taken from twelve recovered bits (45_rx_state_machine.md R193). -/
abbrev bitWindowBits : BitVec 4 := 12

/-- START_PATTERN (45_rx_state_machine.md R191). -/
abbrev startPattern : Window := 0xB38

/-- CRC_POLY, 0x1021 with its bits reversed (41_crc.md R120). -/
abbrev crcPoly : Crc := 0x8408

/-- CRC_INIT (41_crc.md R120). -/
abbrev crcInit : Crc := 0xFFFF

/-- CRC_RESIDUE (41_crc.md R124). -/
abbrev crcResidue : Crc := 0xF0B8

/-- The default SYMBOL_TABLE (30_encoding.md R88). PRESUMED: the spec marks it as general knowledge (log entry 8). -/
def defaultSymbolTable : Vector Symbol 16 :=
  #v[0x0D, 0x0E, 0x13, 0x15, 0x16, 0x19, 0x1A, 0x1C, 0x23, 0x25, 0x26, 0x29, 0x2A, 0x2C, 0x32, 0x34]

/-- The parameters' defaults (00_scope.md R6; log entries 8 and 9). -/
def defaultConfig : Config :=
  { symbolTable := defaultSymbolTable, strictSymbolCheck := false }

end Sys2Proof.Machine
end

