-- ==== Sys2Proof/Machine/State.lean ====
section
/-! DEFINITION. The state of one instance of the block (10_state.md R23 to R46), with its input and output sides, the
reasons a step can stop, and the state after reset (70_reset_and_hazards.md R280). -/

namespace Sys2Proof.Machine

/-- The contents of one byte buffer: (index, byte) cells in the canonical form `Memory.wf` of Machine/Ops.lean. -/
abbrev Memory := List Host.Cell

/-- What the outside world does next (10_state.md R47; log entry 1). -/
inductive Turn where
  /-- The platform strobes `tick`, with the sample `rx_in` of the receive pin (47_tick.md R240). -/
  | tick (rxIn : Bool)
  /-- The host agent takes a step: it issues the next command of its port (46_host_commands.md R210). -/
  | host
  /-- The platform asserts `reset` (70_reset_and_hazards.md R280). -/
  | reset
deriving DecidableEq, Repr

/-- Every register of the block, its parameters, and its interface. One-bit registers are Bool, true for 1 (log entry
15). -/
structure State where
  /-- The parameters: never written (40_symbol_codec.md R110 (d)). -/
  config : Config
  /-- The configured PTT polarity (R23). -/
  pttInverted : Bool
  /-- The receiver enable flag (R24). -/
  rxEnabled : Bool
  /-- The transmit state: false is idle (R25). -/
  txActive : Bool
  /-- `TxBuf[8..67]`; the header `TxBuf[0..7]` is hardwired and stands in no cell (R26; log entry 16). -/
  txBuf : Memory
  /-- The number of valid bytes in `TxBuf` (R27). -/
  txLen : Byte
  /-- The index of the byte being transmitted (R28). -/
  txIndex : Byte
  /-- The index of the next bit of `TxBuf[tx_index]` to send (R29). -/
  txBit : BitVec 3
  /-- The transmit sample counter (R30). -/
  txSample : BitVec 3
  /-- The level of the transmit data output (R31). -/
  txOut : Bool
  /-- The level of the PTT output (R32). -/
  pttOut : Bool
  /-- The sent-message counter (R33). -/
  txMsgCount : Byte
  /-- The current raw sample (R34). -/
  rxSample : Bool
  /-- The previous sample (R35). -/
  rxLastSample : Bool
  /-- The PLL phase accumulator (R36). -/
  rxRamp : Byte
  /-- The count of 1-samples in the current bit window (R37). -/
  rxIntegrator : Byte
  /-- The window of recovered bits, the newest at bit 11 (R38). -/
  rxBits : Window
  /-- Recovered bits within the current byte (R39). -/
  rxBitCount : BitVec 4
  /-- The receive state: false is searching for the start pattern (R40). -/
  rxActive : Bool
  /-- `RxBuf[0..29]` (R41). -/
  rxBuf : Memory
  /-- The expected total frame length (R42). -/
  rxCount : Byte
  /-- The number of bytes decoded so far (R43). -/
  rxLen : Byte
  /-- The pending-message flag (R44). -/
  rxDone : Bool
  /-- The good-frame counter (R45). -/
  rxGood : Byte
  /-- The bad-frame counter (R46). -/
  rxBad : Byte
  /-- Output side: the bytes of the last response of the command port (R48; log entry 7). -/
  response : List Byte
  /-- The data bytes of the SEND the host agent is stalled in (46_host_commands.md R210, R212; log entry 2). -/
  held : Option (List Byte)
  /-- Input side: the command bytes the host agent has still to issue (30_encoding.md R96; log entries 1 and 5). -/
  port : List Byte
  /-- Input side: the turns still to come, the next one first (20_memory.md R69; log entries 1 and 5). -/
  schedule : List Turn
deriving DecidableEq, Repr

/-- Why the machine stops. No fault is reached from reset (10_state.md R52). -/
inductive Fault where
  /-- Raised by a tick that would read `TxBuf` past its end. Safe: 20_memory.md R60 allows a fault (log entry 11). -/
  | txBufIndex (index : Nat)
  /-- Raised by a tick that would store past the end of `RxBuf` and by GET_MESSAGE of a message that would not fit in
  it. Safe: 20_memory.md R60 allows a fault (log entry 11). -/
  | rxBufIndex (index : Nat)
  /-- Raised by GET_MESSAGE when a pending message has fewer than three bytes, so that `rx_len − 3` is no natural
  number. Safe: the spec gives no effect there and no run reaches it (log entry 12). -/
  | rxLenTooShort (len : Nat)
deriving DecidableEq, Repr

/-- Why the model gives no meaning. -/
inductive Refusal where
  /-- Answered by an arm of `exec` whose instruction has no meaning yet. Safe: the model stops. No arm answers it. -/
  | notModelled (mnemonic : String)
deriving DecidableEq, Repr

/-- The outcome of a step of this machine. -/
abbrev Result := Host.Outcome State Fault Refusal

/-- The block right after reset (70_reset_and_hazards.md R280, R281), with the default parameters (log entries 8 and 9),
`RxBuf` reading 0 (log entry 6) and nothing on the input and output sides (log entries 1, 2, 5 and 7). -/
def State.reset : State :=
  { config := defaultConfig
    pttInverted := false
    rxEnabled := false
    txActive := false
    txBuf := []
    txLen := 0
    txIndex := 0
    txBit := 0
    txSample := 0
    txOut := false
    pttOut := false
    txMsgCount := 0
    rxSample := false
    rxLastSample := false
    rxRamp := 0
    rxIntegrator := 0
    rxBits := 0
    rxBitCount := 0
    rxActive := false
    rxBuf := []
    rxCount := 0
    rxLen := 0
    rxDone := false
    rxGood := 0
    rxBad := 0
    response := []
    held := none
    port := []
    schedule := [] }

end Sys2Proof.Machine
end

