-- ==== Sys2Proof/Machine/Operands.lean ====
section
/-! DEFINITION. The fields of bytes and words that the rules take apart and put together (00_scope.md R7;
30_encoding.md R82; 20_memory.md R64, R65). -/

namespace Sys2Proof.Machine

/-- `b[3:0]`. -/
def lowNibble (b : Byte) : Nibble := b.extractLsb' 0 4

/-- `b[7:4]`. -/
def highNibble (b : Byte) : Nibble := b.extractLsb' 4 4

/-- `(hi << 4) | lo` (45_rx_state_machine.md R193). -/
def byteOfNibbles (hi lo : Nibble) : Byte := hi ++ lo

/-- `v[7:0]` of a CRC (20_memory.md R65). -/
def lowByte (v : Crc) : Byte := v.extractLsb' 0 8

/-- `v[15:8]` of a CRC (20_memory.md R65). -/
def highByte (v : Crc) : Byte := v.extractLsb' 8 8

/-- A symbol as a buffer byte, bits [7:6] zero (30_encoding.md R87). -/
def byteOfSymbol (s : Symbol) : Byte := s.setWidth 8

/-- Window bits [5:0], the first received symbol (45_rx_state_machine.md R196). -/
def firstSymbol (w : Window) : Symbol := w.extractLsb' 0 6

/-- Window bits [11:6], the second received symbol (45_rx_state_machine.md R196). -/
def secondSymbol (w : Window) : Symbol := w.extractLsb' 6 6

/-- A one-bit value as a byte, 0 or 1. -/
def byteOfBool (b : Bool) : Byte := if b then 1 else 0

/-- `inv = imm8[0]` (30_encoding.md R82). -/
def invOperand (inv : BitVec 1) : Bool := inv.getLsbD 0

end Sys2Proof.Machine
end

