-- ==== Sys2Proof/Machine/Flags.lean ====
section
/-! DEFINITION. The flags byte (46_host_commands.md R222; 10_state.md R50). The block has no condition codes. -/

namespace Sys2Proof.Machine

/-- FLAGS: bit 0 tx_active, 1 rx_enabled, 2 rx_active, 3 rx_done, 4 ptt_inverted, 5 tx_out, 6 ptt_out; bit 7 reads 0
(46_host_commands.md R222). -/
def flagsByte (s : State) : Byte :=
  byteOfBool s.txActive
    ||| byteOfBool s.rxEnabled <<< 1
    ||| byteOfBool s.rxActive <<< 2
    ||| byteOfBool s.rxDone <<< 3
    ||| byteOfBool s.pttInverted <<< 4
    ||| byteOfBool s.txOut <<< 5
    ||| byteOfBool s.pttOut <<< 6

end Sys2Proof.Machine
end

