-- ==== Sys2Proof/Machine/Crc16.lean ====
section
/-! DEFINITION. CRC-16/CCITT, reflected (41_crc.md). -/

namespace Sys2Proof.Machine

/-- One bit of CRC_UPDATE (41_crc.md R121). -/
def crcShift (c : Crc) : Crc :=
  if c.getLsbD 0 then (c >>> 1) ^^^ crcPoly else c >>> 1

/-- `k` bits of CRC_UPDATE. -/
def crcShifts : Nat → Crc → Crc
  | 0, c => c
  | k + 1, c => crcShifts k (crcShift c)

/-- CRC_UPDATE: one byte into the CRC (41_crc.md R121). -/
def crcUpdate (crc : Crc) (b : Byte) : Crc :=
  crcShifts 8 (crc ^^^ b.setWidth 16)

/-- CRC_BLOCK: the CRC of a byte sequence (41_crc.md R122). -/
def crcBlock (bytes : List Byte) : Crc :=
  bytes.foldl crcUpdate crcInit

/-- The transmitted CRC over the count byte and the payload (41_crc.md R123). -/
def fcs (covered : List Byte) : Crc := ~~~ crcBlock covered

end Sys2Proof.Machine
end

