-- ==== Sys2Proof/Machine/Ops.lean ====
section
/-! DEFINITION. The named operations over the buffers and the command port, and reset. -/

namespace Sys2Proof.Machine

/-! ### Buffers -/

/-- What a byte that nothing has written reads as: `TxBuf[8..67]` resets to 0 (10_state.md R26); `RxBuf`'s reset value is
unspecified and 0 is a DESIGN CHOICE (70_reset_and_hazards.md R282 lets a model start it at zero; log entry 6). -/
def Memory.unlisted : Byte := 0

/-- One byte of a buffer. -/
def Memory.read : Memory → Nat → Byte
  | [], _ => Memory.unlisted
  | (k, w) :: m, a => if k = a then w else Memory.read m a

/-- The cells `(a, v) :: m`, without the first where `a` reads as `v` unlisted. -/
def Memory.cons (a : Nat) (v : Byte) (m : Memory) : Memory :=
  if v = Memory.unlisted then m else (a, v) :: m

/-- Writes one byte of a buffer, keeping the canonical form. -/
def Memory.write : Memory → Nat → Byte → Memory
  | [], a, v => Memory.cons a v []
  | (k, w) :: m, a, v =>
    if a < k then Memory.cons a v ((k, w) :: m)
    else if a = k then Memory.cons a v m
    else (k, w) :: Memory.write m a v

/-- Writes consecutive bytes from index `a` on. -/
def Memory.writeFrom : Memory → Nat → List Byte → Memory
  | m, _, [] => m
  | m, a, v :: vs => Memory.writeFrom (Memory.write m a v) (a + 1) vs

/-- The canonical form: indices strictly rising, and no cell equal to what an unlisted byte reads as. -/
abbrev Memory.wf (m : Memory) : Prop :=
  m.Pairwise (fun x y => x.1 < y.1) ∧ ∀ x ∈ m, x.2 ≠ Memory.unlisted

/-- `TxBuf[i]`. Bytes 0 to 7 are the hardwired header (10_state.md R26). -/
def State.txByte (s : State) (i : Nat) : Byte :=
  if i < headerLen then header.getD i 0 else s.txBuf.read i

/-- The writes `TxBuf[i] <- v` for consecutive `i` from `a` on; the hardwired bytes discard them (10_state.md R26: no rule
forms one). -/
def writeTx (m : Memory) (a : Nat) (vs : List Byte) : Memory :=
  m.writeFrom (max a headerLen) (vs.drop (headerLen - a))

/-- `RxBuf[i]`. -/
def State.rxByte (s : State) (i : Nat) : Byte := s.rxBuf.read i

/-- `RxBuf[a .. a + n − 1]`. -/
def State.rxBytes (s : State) (a n : Nat) : List Byte :=
  (List.range n).map fun k => s.rxByte (a + k)

/-! ### The command port -/

/-- The result codes of 60_exceptions.md R251. -/
inductive ResultCode where
  | ok | payloadTooLong | notReady | illegalCommand
deriving DecidableEq, Repr

/-- A result code's byte (60_exceptions.md R251). -/
def ResultCode.byte : ResultCode → Byte
  | .ok => 0x00
  | .payloadTooLong => 0x01
  | .notReady => 0x02
  | .illegalCommand => 0xFF

/-- `respond(code, data...)`, and `raise` of an error: the command ends with its response and nothing else changes
(00_scope.md R10; 30_encoding.md R80; 60_exceptions.md R250, R257). It stands in this block where another machine takes an
exception: no condition redirects control or saves state (R250), and there is no return (R258). -/
def respond (code : ResultCode) (data : List Byte) (s : State) : State :=
  { s with response := code.byte :: data }

/-- `hold`: the SEND takes no step and the host agent is stalled in it (00_scope.md R10; 46_host_commands.md R210; log
entry 2). -/
def hold (data : List Byte) (s : State) : State :=
  { s with held := some data }

/-! ### Reset -/

/-- The `reset` input: every register takes its reset value (70_reset_and_hazards.md R280). The parameters are no
registers, and the two agents' sides of the interface are outside the block (log entry 13). -/
def resetBlock (s : State) : State :=
  { State.reset with
    config := s.config
    response := s.response
    held := s.held
    port := s.port
    schedule := s.schedule }

end Sys2Proof.Machine
end

