-- ==== Sys2Proof/Machine/SymbolCodec.lean ====
section
/-! DEFINITION. The 4-to-6 symbol codec (40_symbol_codec.md). -/

namespace Sys2Proof.Machine

/-- ENC6: `SYMBOL_TABLE[n]` (40_symbol_codec.md R111). -/
def enc6 (c : Config) (n : Nibble) : Symbol := c.symbolTable[n.toNat]

/-- DEC6: the index of the first entry equal to `s`, and whether there is one; nibble 0 where there is none
(40_symbol_codec.md R112). -/
def dec6 (c : Config) (s : Symbol) : Nibble × Bool :=
  match c.symbolTable.toList.findIdx? (· == s) with
  | some i => (BitVec.ofNat 4 i, true)
  | none => (0, false)

/-- The two symbols of a logical byte as buffer bytes, low nibble first (20_memory.md R64). -/
def symbolPair (c : Config) (b : Byte) : List Byte :=
  [byteOfSymbol (enc6 c (lowNibble b)), byteOfSymbol (enc6 c (highNibble b))]

end Sys2Proof.Machine
end

