-- ==== Sys2Proof/Machine/Frame.lean ====
section
/-! DEFINITION. The frame encoder (42_frame_codec.md). -/

namespace Sys2Proof.Machine

/-- `count = len + 3` (42_frame_codec.md R130). -/
def countByte (payload : List Byte) : Byte := BitVec.ofNat 8 (payload.length + 3)

/-- The logical frame: count, payload, and the transmitted CRC low byte first (42_frame_codec.md R130; 41_crc.md R123). -/
def frameBytes (payload : List Byte) : List Byte :=
  let covered := countByte payload :: payload
  covered ++ [lowByte (fcs covered), highByte (fcs covered)]

/-- The symbol area's bytes for a payload, two for each byte of the logical frame (42_frame_codec.md R130, R131). -/
def frameSymbols (c : Config) (payload : List Byte) : List Byte :=
  (frameBytes payload).flatMap (symbolPair c)

/-- FRAME_BUILD: the symbols from `TxBuf[8]` on, and `tx_len` (42_frame_codec.md R131, R133). -/
def frameBuild (payload : List Byte) (s : State) : State :=
  let symbols := frameSymbols s.config payload
  { s with
    txBuf := writeTx s.txBuf headerLen symbols
    txLen := BitVec.ofNat 8 (headerLen + symbols.length) }

end Sys2Proof.Machine
end

