-- ==== Sys2Proof/Machine/Transmit.lean ====
section
/-! DEFINITION. The transmit bit state machine (43_tx_state_machine.md). -/

namespace Sys2Proof.Machine

/-- tx_start (43_tx_state_machine.md R151). -/
def txStart (s : State) : State :=
  { s with
    txIndex := 0
    txBit := 0
    txSample := 0
    pttOut := true ^^ s.pttInverted
    txActive := true }

/-- tx_stop (43_tx_state_machine.md R152). -/
def txStop (s : State) : State :=
  { s with
    pttOut := false ^^ s.pttInverted
    txOut := false
    txActive := false }

/-- end_of_frame (43_tx_state_machine.md R155). -/
def endOfFrame (s : State) : State :=
  { s with
    txActive := false
    txOut := false
    pttOut := false ^^ s.pttInverted
    txMsgCount := s.txMsgCount + 1 }

/-- The bit `TxBuf[tx_index][tx_bit]`. -/
def State.nextTxBit (s : State) : Bool := (s.txByte s.txIndex.toNat).getLsbD s.txBit.toNat

/-- Whether the bit at the cursor is the last of its symbol: `tx_bit + 1 == 6` (43_tx_state_machine.md R154). -/
def State.atLastSymbolBit (s : State) : Bool := s.txBit + 1 == BitVec.ofNat 3 symbolBits

/-- emit_bit where `TxBuf[tx_index]` exists (43_tx_state_machine.md R154). -/
def sendBit (s : State) : State :=
  { s with
    txOut := s.nextTxBit
    txBit := if s.atLastSymbolBit then 0 else s.txBit + 1
    txIndex := if s.atLastSymbolBit then s.txIndex + 1 else s.txIndex }

/-- emit_bit (43_tx_state_machine.md R154), a fault where `TxBuf[tx_index]` does not exist (log entry 11). -/
def emitBit (s : State) : Result :=
  if s.txIndex.toNat < txBufLen then .next (sendBit s)
  else .fault (.txBufIndex s.txIndex.toNat)

/-- What `tx_step` does on the ticks where `tx_sample == 0` (43_tx_state_machine.md R153). -/
def txAdvance (s : State) : Result :=
  if s.txLen ≤ s.txIndex then .next (endOfFrame s) else emitBit s

/-- tx_step: the sample counter is tested before it is incremented (43_tx_state_machine.md R153). -/
def txStep (s : State) : Result :=
  let counted := { s with txSample := s.txSample + 1 }
  if s.txSample = 0 then txAdvance counted else .next counted

end Sys2Proof.Machine
end

