-- ==== Sys2Proof/Machine/HostCommands.lean ====
section
/-! DEFINITION. What each host command does (46_host_commands.md). -/

namespace Sys2Proof.Machine

/-- SEND: the length check, then the hold, then build and start in one step (46_host_commands.md R211, R212; 60_exceptions.md
R253). -/
def execSend (data : List Byte) (s : State) : Result :=
  if maxPayload < data.length then .next (respond .payloadTooLong [] s)
  else if s.txActive then .next (hold data s)
  else .next (respond .ok [] (txStart (frameBuild data s)))

/-- TX_START (46_host_commands.md R213). -/
def execTxStart (_imm8 : Byte) (s : State) : Result :=
  .next (respond .ok [] (txStart s))

/-- TX_STOP (46_host_commands.md R214). -/
def execTxStop (_imm8 : Byte) (s : State) : Result :=
  .next (respond .ok [] (txStop s))

/-- RX_START (46_host_commands.md R216). -/
def execRxStart (_imm8 : Byte) (s : State) : Result :=
  .next (respond .ok []
    { s with
      rxEnabled := true
      rxActive := if s.rxEnabled then s.rxActive else false })

/-- RX_STOP (46_host_commands.md R217). -/
def execRxStop (_imm8 : Byte) (s : State) : Result :=
  .next (respond .ok [] { s with rxEnabled := false })

/-- HAVE_MESSAGE (46_host_commands.md R218). -/
def execHaveMessage (_imm8 : Byte) (s : State) : Result :=
  .next (respond .ok [byteOfBool s.rxDone] s)

/-- Whether the CRC over `RxBuf[0..rx_len−1]` is the residue (41_crc.md R125). -/
def State.crcOk (s : State) : Bool := crcBlock (s.rxBytes 0 s.rxLen.toNat) == crcResidue

/-- The payload bytes GET_MESSAGE returns, `RxBuf[1..n]` with `n = min(max_len, rx_len − 3)` (46_host_commands.md R219). -/
def State.messageData (s : State) (maxLen : Byte) : List Byte :=
  s.rxBytes 1 (min maxLen.toNat (s.rxLen.toNat - 3))

/-- GET_MESSAGE (46_host_commands.md R219). The two faults are outside the legal values of `rx_len` for a pending message
(10_state.md R52 item 2; log entries 11 and 12). -/
def execGetMessage (maxLen : Byte) (s : State) : Result :=
  if s.rxDone then
    if s.rxLen.toNat < 3 then .fault (.rxLenTooShort s.rxLen.toNat)
    else if maxMessageLen < s.rxLen.toNat then .fault (.rxBufIndex (s.rxLen.toNat - 1))
    else
      let data := s.messageData maxLen
      .next (respond .ok (BitVec.ofNat 8 data.length :: byteOfBool s.crcOk :: data) { s with rxDone := false })
  else .next (respond .notReady [] s)

/-- SET_PTT_INVERTED (46_host_commands.md R221). -/
def execSetPttInverted (_ignored : BitVec 7) (inv : BitVec 1) (s : State) : Result :=
  .next (respond .ok [] { s with pttInverted := invOperand inv })

/-- READ_STATUS (46_host_commands.md R222). -/
def execReadStatus (sel : Byte) (s : State) : Result :=
  match sel.toNat with
  | 0 => .next (respond .ok [s.rxGood] s)
  | 1 => .next (respond .ok [s.rxBad] s)
  | 2 => .next (respond .ok [s.txMsgCount] s)
  | 3 => .next (respond .ok [flagsByte s] s)
  | _ => .next (respond .illegalCommand [] s)

/-- A reserved opcode: no state change, ILLEGAL_COMMAND (46_host_commands.md R220; log entry 14). -/
def reservedCommand (s : State) : Result :=
  .next (respond .illegalCommand [] s)

end Sys2Proof.Machine
end

