-- ==== Sys2Proof/Machine/Dispatch.lean ====
section
/-! DEFINITION. The meaning of each host command. -/

namespace Sys2Proof.Machine

def exec (i : Instr) (s : State) : Host.Outcome State Fault Refusal :=
  match i with
  | .send data => Sys2Proof.Machine.execSend data s
  | .txStart imm8 => Sys2Proof.Machine.execTxStart imm8 s
  | .txStop imm8 => Sys2Proof.Machine.execTxStop imm8 s
  | .rxStart imm8 => Sys2Proof.Machine.execRxStart imm8 s
  | .rxStop imm8 => Sys2Proof.Machine.execRxStop imm8 s
  | .haveMessage imm8 => Sys2Proof.Machine.execHaveMessage imm8 s
  | .getMessage maxLen => Sys2Proof.Machine.execGetMessage maxLen s
  | .setPttInverted ignored inv => Sys2Proof.Machine.execSetPttInverted ignored inv s
  | .readStatus sel => Sys2Proof.Machine.execReadStatus sel s

end Sys2Proof.Machine
end

