-- ==== Sys2Proof/Machine/Receive.lean ====
section
/-! DEFINITION. The receive state machine (45_rx_state_machine.md). -/

namespace Sys2Proof.Machine

/-- The state after a start detection (45_rx_state_machine.md R191). -/
def startDetected (s : State) : State :=
  { s with
    rxActive := true
    rxBitCount := 0
    rxLen := 0
    rxDone := false }

/-- search: start-pattern detection (45_rx_state_machine.md R191, R192). -/
def search (s : State) : State :=
  if s.rxBits = startPattern then startDetected s else s

/-- strict_abort (45_rx_state_machine.md R194). -/
def strictAbort (s : State) : State :=
  { s with rxActive := false, rxBad := s.rxBad + 1 }

/-- count_abort (45_rx_state_machine.md R195). -/
def countAbort (s : State) : State :=
  { s with rxActive := false, rxBad := s.rxBad + 1 }

/-- Count capture: the first byte of a frame is its `count` (45_rx_state_machine.md R193, R195). -/
def captureCount (byte : Byte) (s : State) : State :=
  { s with rxCount := if s.rxLen = 0 then byte else s.rxCount }

/-- store where `RxBuf[rx_len]` exists (45_rx_state_machine.md R196). -/
def storeByte (byte : Byte) (s : State) : State :=
  { s with
    rxBuf := s.rxBuf.write s.rxLen.toNat byte
    rxLen := s.rxLen + 1 }

/-- complete (45_rx_state_machine.md R197). -/
def completeFrame (s : State) : State :=
  { s with
    rxActive := false
    rxGood := s.rxGood + 1
    rxDone := true }

/-- Whether a first byte is no legal `count` (45_rx_state_machine.md R195). -/
def badCount (byte : Byte) : Bool := byte < BitVec.ofNat 8 minCount || BitVec.ofNat 8 maxMessageLen < byte

/-- store and the completion test (45_rx_state_machine.md R193, R196, R197), a fault where `RxBuf[rx_len]` does not exist
(log entry 11). -/
def acceptByte (byte : Byte) (s : State) : Result :=
  if s.rxLen.toNat < maxMessageLen then
    let stored := storeByte byte (captureCount byte s)
    .next (if stored.rxLen = stored.rxCount then completeFrame stored else stored)
  else .fault (.rxBufIndex s.rxLen.toNat)

/-- The two symbols of the window decoded: the first gives the low nibble (45_rx_state_machine.md R193, R196). -/
def State.windowByte (s : State) : Byte :=
  byteOfNibbles (dec6 s.config (secondSymbol s.rxBits)).1 (dec6 s.config (firstSymbol s.rxBits)).1

/-- Whether both symbols of the window are in the table (45_rx_state_machine.md R193). -/
def State.windowValid (s : State) : Bool :=
  (dec6 s.config (firstSymbol s.rxBits)).2 && (dec6 s.config (secondSymbol s.rxBits)).2

/-- The twelfth bit of a byte: the checks in the order of 45_rx_state_machine.md R193 and 60_exceptions.md R255. -/
def takeByte (s : State) : Result :=
  if s.config.strictSymbolCheck && !s.windowValid then .next (strictAbort s)
  else if s.rxLen = 0 && badCount s.windowByte then .next (countAbort s)
  else acceptByte s.windowByte s

/-- assemble: bit counting (45_rx_state_machine.md R193). -/
def assemble (s : State) : Result :=
  if s.rxBitCount + 1 = bitWindowBits then takeByte { s with rxBitCount := 0 }
  else .next { s with rxBitCount := s.rxBitCount + 1 }

/-- rx_bit, with the recovered bit already in the window (45_rx_state_machine.md R190). -/
def rxBit (s : State) : Result :=
  if s.rxActive then assemble s else .next (search s)

end Sys2Proof.Machine
end

