-- ==== Sys2Proof/Machine/Pll.lean ====
section
/-! DEFINITION. The bit-clock PLL (44_pll.md). -/

namespace Sys2Proof.Machine

/-- Step 1, integrate (44_pll.md R171). -/
def integrate (s : State) : State :=
  { s with rxIntegrator := if s.rxSample then s.rxIntegrator + 1 else s.rxIntegrator }

/-- Whether the tick's sample differs from the previous one (44_pll.md R172). -/
def State.isEdge (s : State) : Bool := s.rxSample != s.rxLastSample

/-- How far the ramp advances: retard or advance on an edge, nominal otherwise (44_pll.md R172). -/
def State.rampGain (s : State) : Byte :=
  if s.isEdge then (if s.rxRamp < rampTransition then rampIncRetard else rampIncAdvance) else rampInc

/-- Step 2, edge detection and ramp advance (44_pll.md R172). -/
def advanceRamp (s : State) : State :=
  { s with
    rxRamp := s.rxRamp + s.rampGain
    rxLastSample := if s.isEdge then s.rxSample else s.rxLastSample }

/-- The recovered bit: the majority threshold (44_pll.md R174). -/
def State.recoveredBit (s : State) : Bool := integratorThreshold ≤ s.rxIntegrator

/-- A bit shifted into the window at bit 11; bit 0 is lost (44_pll.md R174). -/
def shiftIn (b : Bool) (w : Window) : Window := (w >>> 1) ||| (if b then 0x800 else 0)

/-- Step 3: the wrap and the window's update (44_pll.md R173, R174), before the bit goes to `rx_bit`. -/
def wrapRamp (s : State) : State :=
  { s with
    rxRamp := s.rxRamp - rampLen
    rxBits := shiftIn s.recoveredBit s.rxBits
    rxIntegrator := 0 }

/-- pll_step (44_pll.md R175). -/
def pllStep (s : State) : Result :=
  let advanced := advanceRamp (integrate s)
  if rampLen ≤ advanced.rxRamp then rxBit (wrapRamp advanced) else .next advanced

end Sys2Proof.Machine
end

