-- ==== Sys2Proof/Machine/Tick.lean ====
section
/-! DEFINITION. The tick dispatcher (47_tick.md). -/

namespace Sys2Proof.Machine

/-- Whether the receive path runs in a tick, read before the step (47_tick.md R240). -/
def State.rxRuns (s : State) : Bool := s.rxEnabled && !s.txActive

/-- tick: the receive path, the transmit path, or neither (47_tick.md R240). Both guards are read before the step and are
never both true. -/
def tick (rxIn : Bool) (s : State) : Result :=
  if s.rxRuns then pllStep { s with rxSample := rxIn }
  else if s.txActive then txStep s
  else .next s

end Sys2Proof.Machine
end

