-- ==== Sys2Proof/Machine/Turns.lean ====
section
/-! DEFINITION. Whose step comes next: the tick agent's, the host agent's, or a reset (00_scope.md R12; 20_memory.md R69). -/

namespace Sys2Proof.Machine

/-- A turn of the host agent: the command at the front of the port is issued whole, in one step (46_host_commands.md R210;
30_encoding.md R86). A reserved opcode answers ILLEGAL_COMMAND (R220). Where no whole command stands on the port, none is
issued (log entries 3 and 4). -/
def hostTurn (s : State) : Result :=
  match decode s.port with
  | .ok (i, rest) => exec i { s with port := rest }
  | .error (.reservedOpcode _ _) => reservedCommand { s with port := s.port.drop 2 }
  | .error .incomplete => .next s

/-- A turn, already taken off the schedule. A stalled host agent has no step (46_host_commands.md R210; log entry 3). -/
def takeTurn (t : Turn) (s : State) : Result :=
  match t with
  | .tick rxIn => tick rxIn s
  | .host => if s.held.isSome then .next s else hostTurn s
  | .reset => .next (resetBlock s)

/-- The next turn of the schedule; with no turn left nothing happens (log entry 3). -/
def scheduledStep (s : State) : Result :=
  match s.schedule with
  | t :: rest => takeTurn t { s with schedule := rest }
  | [] => .next s

/-- A held SEND takes its step in the first state where the transmitter is idle, before any other turn; otherwise the next
turn is taken (46_host_commands.md R210, R212; log entry 2). -/
def nextStep (s : State) : Result :=
  match s.held with
  | some data => if s.txActive then scheduledStep s else exec (.send data) { s with held := none }
  | none => scheduledStep s

end Sys2Proof.Machine
end

