-- ==== Sys2Proof/Machine/Step.lean ====
section
/-! DEFINITION. One step of the machine, and the state whose next step runs a given instruction. -/

namespace Sys2Proof.Machine

/-- One step of the machine: one tick, one command or one reset, whole (20_memory.md R67, R69). -/
def step (s : State) : Host.Outcome State Fault Refusal := nextStep s

/-- `s` with an instruction, given by its table bits, as the host agent's next command, the host agent not stalled and its
turn the next: the block fetches no instructions, so this stands for the host issuing the command (10_state.md R21; log
entries 5 and 19). -/
def State.withFetchWord (s : State) (nbits w : Nat) : State :=
  { s with
    held := none
    port := tableBytes nbits w ++ s.port
    schedule := .host :: s.schedule }

end Sys2Proof.Machine
end

