-- ==== Sys2Proof/Safety.lean ====
section
/-! DEFINITION. The vocabulary of the claims: the invariants of a reachable state, runs of ticks and of recovered bits, and
the groups of registers that frames speak of. -/

namespace Sys2Proof.Machine

/-- The least value the ramp can have once the integrator has counted `k` ones since the last wrap: a tick adds at least 11
below 80 and at least 20 from 80 on (10_state.md R37). -/
def minRamp (k : Nat) : Nat := 11 * min k 8 + 20 * (k - 8)

/-- What holds in every reachable state: the items of 10_state.md R52 and the legal values of R26 to R43, with the canonical
form of the two buffers. (R52 item 4 is `State.PttFollows`.) -/
structure State.Inv (s : State) : Prop where
  /-- R52 item 1. -/
  rxLen_le_rxCount : s.rxLen.toNat ≤ s.rxCount.toNat
  /-- R42. -/
  rxCount_legal : s.rxCount.toNat = 0 ∨ (4 ≤ s.rxCount.toNat ∧ s.rxCount.toNat ≤ 30)
  /-- Inside a frame another byte is always awaited (45_rx_state_machine.md R196). -/
  frame_open : s.rxActive = true → s.rxLen.toNat = 0 ∨ s.rxLen.toNat < s.rxCount.toNat
  /-- R52 item 2. -/
  message : s.rxDone = true → s.rxActive = false ∧ s.rxLen = s.rxCount ∧ 4 ≤ s.rxLen.toNat
  /-- R27. -/
  txLen_legal : s.txLen.toNat = 0 ∨ (14 ≤ s.txLen.toNat ∧ s.txLen.toNat ≤ 68 ∧ s.txLen.toNat % 2 = 0)
  /-- R28 and R52 item 3. -/
  txIndex_le_txLen : s.txIndex.toNat ≤ s.txLen.toNat
  /-- R29 and R52 item 3. -/
  txBit_legal : s.txBit.toNat ≤ 5
  /-- R36 and R52 item 5. -/
  rxRamp_legal : s.rxRamp.toNat ≤ 159
  /-- R37 and R52 item 5: with `rxRamp_legal` it bounds the integrator by 11. -/
  rxIntegrator_bound : minRamp s.rxIntegrator.toNat ≤ s.rxRamp.toNat
  /-- R39 and R52 item 5. -/
  rxBitCount_legal : s.rxBitCount.toNat ≤ 11
  /-- The canonical form of `TxBuf[8..67]`. -/
  txBuf_wf : s.txBuf.wf
  /-- R26: the symbol area's indices and its 6-bit contents. -/
  txBuf_legal : ∀ x ∈ s.txBuf, 8 ≤ x.1 ∧ x.1 < 68 ∧ x.2.toNat < 64
  /-- The canonical form of `RxBuf`. -/
  rxBuf_wf : s.rxBuf.wf
  /-- R41: the buffer's indices. -/
  rxBuf_legal : ∀ x ∈ s.rxBuf, x.1 < 30
  /-- Only a SEND that passed the length check is held (46_host_commands.md R211, R212). -/
  held_legal : ∀ data, s.held = some data → data.length ≤ 27

/-- R52 item 4: the PTT output follows the transmit state under the configured polarity (10_state.md R52). -/
def State.PttFollows (s : State) : Prop := s.pttOut = (s.txActive ^^ s.pttInverted)

/-- Consecutive ticks with the given samples, stopping at a fault or refusal. -/
def runTicks : List Bool → State → Result
  | [], s => .next s
  | x :: xs, s =>
    match tick x s with
    | .next t => runTicks xs t
    | .fault f => .fault f
    | .refused r => .refused r

/-- What 44_pll.md R174 does with a recovered bit: it enters the window and goes to `rx_bit`. -/
def recoverBit (b : Bool) (s : State) : Result := rxBit { s with rxBits := shiftIn b s.rxBits }

/-- Consecutive recovered bits, stopping at a fault or refusal. -/
def recoverBits : List Bool → State → Result
  | [], s => .next s
  | b :: bs, s =>
    match recoverBit b s with
    | .next t => recoverBits bs t
    | .fault f => .fault f
    | .refused r => .refused r

/-- The six bits of each buffer byte in transmission order, bit 0 first (20_memory.md R63; 30_encoding.md R90). -/
def wireBits (bytes : List Byte) : List Bool :=
  bytes.flatMap fun b => (List.range 6).map fun k => b.getLsbD k

/-- Each bit held for eight ticks (30_encoding.md R90). -/
def lineSamples (bits : List Bool) : List Bool := bits.flatMap (List.replicate 8)

/-- The transmit registers and `TxBuf` are the same. -/
structure SameTransmitter (s t : State) : Prop where
  txActive : t.txActive = s.txActive
  txLen : t.txLen = s.txLen
  txIndex : t.txIndex = s.txIndex
  txBit : t.txBit = s.txBit
  txSample : t.txSample = s.txSample
  txOut : t.txOut = s.txOut
  pttOut : t.pttOut = s.pttOut
  txMsgCount : t.txMsgCount = s.txMsgCount
  txByte : ∀ a, t.txByte a = s.txByte a

/-- The PLL registers are the same (44_pll.md R178). -/
structure SamePll (s t : State) : Prop where
  rxSample : t.rxSample = s.rxSample
  rxLastSample : t.rxLastSample = s.rxLastSample
  rxRamp : t.rxRamp = s.rxRamp
  rxIntegrator : t.rxIntegrator = s.rxIntegrator
  rxBits : t.rxBits = s.rxBits

/-- The receive registers other than the PLL's, and `RxBuf`, are the same. -/
structure SameReceiver (s t : State) : Prop where
  rxBitCount : t.rxBitCount = s.rxBitCount
  rxActive : t.rxActive = s.rxActive
  rxCount : t.rxCount = s.rxCount
  rxLen : t.rxLen = s.rxLen
  rxDone : t.rxDone = s.rxDone
  rxGood : t.rxGood = s.rxGood
  rxBad : t.rxBad = s.rxBad
  rxByte : ∀ a, t.rxByte a = s.rxByte a

/-- The parameters, the two host-written flags and the interface are the same. -/
structure SameHostSide (s t : State) : Prop where
  config : t.config = s.config
  pttInverted : t.pttInverted = s.pttInverted
  rxEnabled : t.rxEnabled = s.rxEnabled
  response : t.response = s.response
  held : t.held = s.held
  port : t.port = s.port
  schedule : t.schedule = s.schedule

/-- Two states that differ at most in bytes of `RxBuf` the current frame has not written
(70_reset_and_hazards.md R282). -/
structure AgreeOnFrame (s t : State) : Prop where
  elsewhere : t = { s with rxBuf := t.rxBuf }
  written : ∀ a, a < s.rxLen.toNat → t.rxByte a = s.rxByte a

end Sys2Proof.Machine
end

