-- ==== Sys2Proof/Certificates/Slice0/Obligations.lean ====
section
/-! DEFINITION. The statements for the provers. -/

open Sys2Proof Sys2Proof.Machine

/-! ### Encoding -/

/-- Decoding the bytes of a well-formed command gives the command back and leaves the bytes after it (30_encoding.md R80, R82,
R86). -/
def Obligations.DecodeReadsBackEncode : Prop :=
  ∀ (i : Instr) (rest : List Byte), i.wellFormed = true → decode (encode i ++ rest) = .ok (i, rest)

/-- What is decoded is well-formed and its bytes are the ones decoded: each byte sequence has one reading (30_encoding.md
R80, R86). -/
def Obligations.DecodedBytesReencode : Prop :=
  ∀ (bs : List Byte) (i : Instr) (rest : List Byte),
    decode bs = .ok (i, rest) → i.wellFormed = true ∧ encode i ++ rest = bs

/-- The words of 30_encoding.md R94 and the encodings of 95_test_vectors.md section 2.7. -/
def Obligations.SpelledWordsDecode : Prop :=
  decode [0x01, 0x02, 0x41, 0x42, 0x09] = .ok (.send [0x41, 0x42], [0x09]) ∧
  decodeTableWord 16 0x0200 = some (.txStart 0x00) ∧
  decodeTableWord 16 0x0300 = some (.txStop 0x00) ∧
  decodeTableWord 16 0x0400 = some (.rxStart 0x00) ∧
  decodeTableWord 16 0x0500 = some (.rxStop 0x00) ∧
  decodeTableWord 16 0x0600 = some (.haveMessage 0x00) ∧
  decodeTableWord 16 0x071E = some (.getMessage 0x1E) ∧
  decodeTableWord 16 0x0803 = some (.setPttInverted 1 1) ∧
  decodeTableWord 16 0x0903 = some (.readStatus 0x03)

/-- Issuing a reserved opcode answers ILLEGAL_COMMAND and changes no register (46_host_commands.md R220, 30_encoding.md R84).
That the decoder rejects the word by name is the model's choice (log entry 14), as is that the turn and the two bytes go off
`schedule` and `port` (log entries 1 and 5). -/
def Obligations.ReservedOpcodeAnswersIllegal : Prop :=
  ∀ (op imm8 : Byte) (rest : List Byte) (q : List Turn) (s : State),
    op = 0x00 ∨ 0x0A ≤ op.toNat →
    s.held = none → s.schedule = .host :: q → s.port = op :: imm8 :: rest →
    decode s.port = .error (.reservedOpcode op imm8) ∧
    step s = .next { s with schedule := q, port := rest, response := [0xFF] }

/-! ### Steps -/

/-- A turn of the host agent runs the command decoded from the port (46_host_commands.md R210), the command's bytes and the
turn taken off the input side. -/
def Obligations.HostTurnRunsDecodedCommand : Prop :=
  ∀ (s : State) (q : List Turn) (i : Instr) (rest : List Byte),
    s.held = none → s.schedule = .host :: q → decode s.port = .ok (i, rest) →
    step s = exec i { s with schedule := q, port := rest }

/-- A tick turn runs `tick` with its sample, whether or not a SEND is held (46_host_commands.md R210, 47_tick.md R240). -/
def Obligations.TickTurnRunsTick : Prop :=
  ∀ (s : State) (x : Bool) (q : List Turn),
    (s.held = none ∨ s.txActive = true) → s.schedule = .tick x :: q →
    step s = tick x { s with schedule := q }

/-- A held SEND is taken first as soon as the transmitter is idle, and until then the host agent has no step. The forms of
`held` and `schedule` are the model's (log entries 1, 2 and 3). -/
def Obligations.HeldSendGoesFirst : Prop :=
  (∀ (s : State) (d : List Byte), s.held = some d → s.txActive = false →
    step s = exec (.send d) { s with held := none }) ∧
  (∀ (s : State) (d : List Byte) (q : List Turn), s.held = some d → s.txActive = true → s.schedule = .host :: q →
    step s = .next { s with schedule := q })

/-- The state `withFetchWord` gives runs exactly the instruction the table word stands for (log entries 5 and 19). -/
def Obligations.FetchWordRunsNext : Prop :=
  ∀ (s : State) (nbits w : Nat) (i : Instr), decodeTableWord nbits w = some i →
    step (s.withFetchWord nbits w) = exec i { s with held := none }

/-- A reset turn gives every register its reset value (70_reset_and_hazards.md R280), and so does the state after reset.
What the turn leaves of the input and output sides is the model's choice (log entry 13). -/
def Obligations.ResetWritesEveryRegister : Prop :=
  (∀ (s : State) (q : List Turn), (s.held = none ∨ s.txActive = true) → s.schedule = .reset :: q →
    ∃ t, step s = .next t ∧ SameTransmitter State.reset t ∧ SamePll State.reset t ∧
      t.rxBitCount = 0 ∧ t.rxActive = false ∧ t.rxCount = 0 ∧ t.rxLen = 0 ∧ t.rxDone = false ∧ t.rxGood = 0 ∧
      t.rxBad = 0 ∧ t.pttInverted = false ∧ t.rxEnabled = false ∧ t.config = s.config ∧ t.schedule = q) ∧
  (let r := State.reset
   r.pttInverted = false ∧ r.rxEnabled = false ∧ r.txActive = false ∧ r.txLen = 0 ∧ r.txIndex = 0 ∧ r.txBit = 0 ∧
   r.txSample = 0 ∧ r.txOut = false ∧ r.pttOut = false ∧ r.txMsgCount = 0 ∧ r.rxSample = false ∧
   r.rxLastSample = false ∧ r.rxRamp = 0 ∧ r.rxIntegrator = 0 ∧ r.rxBits = 0 ∧ r.rxBitCount = 0 ∧
   r.rxActive = false ∧ r.rxCount = 0 ∧ r.rxLen = 0 ∧ r.rxDone = false ∧ r.rxGood = 0 ∧ r.rxBad = 0 ∧
   (List.range 8).map r.txByte = [0x2A, 0x2A, 0x2A, 0x2A, 0x2A, 0x2A, 0x38, 0x2C] ∧
   ∀ a, 8 ≤ a → r.txByte a = 0)

/-! ### Codec, CRC and frame -/

/-- DEC6 of ENC6 gives the nibble back as valid, for every table 40_symbol_codec.md R110 admits (R113, which the spec derives
from R110 to R112). -/
def Obligations.SymbolCodecRoundTrip : Prop :=
  ∀ (c : Config) (n : Nibble), c.Admissible → dec6 c (enc6 c n) = (n, true)

/-- DEC6 answers the first entry equal to the symbol, and nibble 0 with `valid = 0` where there is none
(40_symbol_codec.md R112). -/
def Obligations.DecodeIsFirstMatch : Prop :=
  ∀ (c : Config) (s : Symbol),
    (∀ n : Nibble, enc6 c n = s → (∀ m : Nibble, m < n → enc6 c m ≠ s) → dec6 c s = (n, true)) ∧
    ((∀ n : Nibble, enc6 c n ≠ s) → dec6 c s = (0, false))

/-- The byte-wide form of CRC_UPDATE, which 41_crc.md gives beside the bitwise one as derived (R121). -/
def Obligations.CrcUpdateByteWide : Prop :=
  ∀ (crc : Crc) (b : Byte),
    let d₀ : Byte := b ^^^ crc.setWidth 8
    let d : Crc := (d₀ ^^^ (d₀ <<< 4)).setWidth 16
    crcUpdate crc b = ((d <<< 8) ||| (crc >>> 8)) ^^^ (d >>> 4) ^^^ (d <<< 3)

/-- The CRC over a frame with its complemented CRC appended low byte first is the residue 0xF0B8 (41_crc.md R124, which the spec
derives from R121 to R123), for every payload and, more, every byte sequence. -/
def Obligations.SealedBytesHaveResidue : Prop :=
  ∀ covered : List Byte,
    crcBlock (covered ++ [(~~~ crcBlock covered).setWidth 8, ((~~~ crcBlock covered) >>> 8).setWidth 8]) = 0xF0B8

/-- FRAME_BUILD: the symbol pairs of count, payload and FCS from byte 8 on, low nibble first, `tx_len = 8 + 2·count`, and nothing
else (42_frame_codec.md R131, R133). -/
def Obligations.FrameBuildLaysOutSymbols : Prop :=
  ∀ (p : List Byte) (s : State), p.length ≤ 27 → s.txBuf.wf →
    let count := p.length + 3
    let covered := BitVec.ofNat 8 count :: p
    let f := ~~~ crcBlock covered
    let frame := covered ++ [f.setWidth 8, (f >>> 8).setWidth 8]
    let t := frameBuild p s
    t.txLen.toNat = 8 + 2 * count ∧
    (∀ i, i < count →
      t.txByte (8 + 2 * i) = (enc6 s.config (BitVec.ofNat 4 (frame.getD i 0).toNat)).setWidth 8 ∧
      t.txByte (8 + 2 * i + 1) = (enc6 s.config (BitVec.ofNat 4 ((frame.getD i 0).toNat / 16))).setWidth 8) ∧
    (∀ a, a < 8 ∨ 8 + 2 * count ≤ a → t.txByte a = s.txByte a) ∧
    t = { s with txBuf := t.txBuf, txLen := t.txLen }

/-! ### Host commands: what each does, that it completes, and that nothing else changes -/

/-- SEND of more than 27 bytes answers PAYLOAD_TOO_LONG at once and changes nothing else, while a frame is being sent too
(46_host_commands.md R211). -/
def Obligations.SendRejectsLongPayload : Prop :=
  ∀ (d : List Byte) (s : State), 27 < d.length → exec (.send d) s = .next { s with response := [0x01] }

/-- SEND while the transmitter is active holds: nothing changes but that the host agent is stalled in it (46_host_commands.md
R212; the field `held` is the model's, log entry 2). -/
def Obligations.SendHoldsWhileActive : Prop :=
  ∀ (d : List Byte) (s : State), d.length ≤ 27 → s.txActive = true →
    exec (.send d) s = .next { s with held := some d }

/-- An accepted SEND builds the frame, starts the transmitter and answers OK, in one step (46_host_commands.md R212). -/
def Obligations.SendBuildsAndStarts : Prop :=
  ∀ (d : List Byte) (s : State), d.length ≤ 27 → s.txActive = false → s.txBuf.wf →
    ∃ t, exec (.send d) s = .next t ∧
      t.txLen.toNat = 8 + 2 * (d.length + 3) ∧
      (∀ a, 8 ≤ a ∧ a < 8 + 2 * (d.length + 3) → t.txByte a = (frameSymbols s.config d).getD (a - 8) 0) ∧
      (∀ a, a < 8 ∨ 8 + 2 * (d.length + 3) ≤ a → t.txByte a = s.txByte a) ∧
      t = { s with
        txBuf := t.txBuf, txLen := t.txLen, txIndex := 0, txBit := 0, txSample := 0, pttOut := !s.pttInverted
        txActive := true, response := [0x00] }

/-- TX_START: the cursor to 0, PTT asserted, the transmitter active, and nothing else, while active too; with `tx_len = 0` the
next tick ends the empty frame and counts it (43_tx_state_machine.md R151; 46_host_commands.md R213). -/
def Obligations.TxStartRestartsFrame : Prop :=
  ∀ (imm8 : Byte) (s : State),
    ∃ t, exec (.txStart imm8) s = .next t ∧
      t = { s with
        txIndex := 0, txBit := 0, txSample := 0, pttOut := !s.pttInverted, txActive := true, response := [0x00] } ∧
      (s.txLen = 0 → ∀ x, tick x t = .next { t with
        txSample := 1, txActive := false, txOut := false, pttOut := s.pttInverted, txMsgCount := s.txMsgCount + 1 })

/-- TX_STOP: the outputs deasserted, the transmitter idle, and nothing else: neither the cursor nor the sent-message counter
(43_tx_state_machine.md R152; 46_host_commands.md R214). -/
def Obligations.TxStopDeassertsAtOnce : Prop :=
  ∀ (imm8 : Byte) (s : State),
    exec (.txStop imm8) s = .next
      { s with pttOut := s.pttInverted, txOut := false, txActive := false, response := [0x00] }

/-- RX_START: from disabled it enables the receiver and discards a frame in progress, from enabled it has no effect; no other
register changes (46_host_commands.md R216). -/
def Obligations.RxStartDiscardsStaleFrame : Prop :=
  ∀ (imm8 : Byte) (s : State),
    (s.rxEnabled = false → exec (.rxStart imm8) s = .next
      { s with rxEnabled := true, rxActive := false, response := [0x00] }) ∧
    (s.rxEnabled = true → exec (.rxStart imm8) s = .next { s with response := [0x00] })

/-- RX_STOP clears the enable flag and nothing else; from then on ticks change no PLL or receive register, whatever the samples,
and the next RX_START discards the frame in progress (46_host_commands.md R217). -/
def Obligations.RxStopFreezesReceiver : Prop :=
  ∀ (imm8 : Byte) (s : State),
    ∃ t, exec (.rxStop imm8) s = .next t ∧ t = { s with rxEnabled := false, response := [0x00] } ∧
      (∀ (xs : List Bool) (u : State), runTicks xs t = .next u →
        SamePll s u ∧ SameReceiver s u ∧ ∃ v, exec (.rxStart imm8) u = .next v ∧ v.rxActive = false)

/-- HAVE_MESSAGE answers whether a message is pending and has no side effect (46_host_commands.md R218). -/
def Obligations.HaveMessageReportsPending : Prop :=
  ∀ (imm8 : Byte) (s : State),
    (s.rxDone = true → exec (.haveMessage imm8) s = .next { s with response := [0x00, 0x01] }) ∧
    (s.rxDone = false → exec (.haveMessage imm8) s = .next { s with response := [0x00, 0x00] })

/-- GET_MESSAGE: NOT_READY with no state change where no message is pending; otherwise the first `min(max_len, rx_len − 3)`
payload bytes, the CRC result over the whole frame, and the pending flag cleared, and nothing else, so that a second one is not
ready (46_host_commands.md R219; 41_crc.md R125). -/
def Obligations.GetMessageRetrieves : Prop :=
  ∀ (m : Byte) (s : State),
    (s.rxDone = false → exec (.getMessage m) s = .next { s with response := [0x02] }) ∧
    (s.rxDone = true → 4 ≤ s.rxLen.toNat → s.rxLen.toNat ≤ 30 →
      let n := min m.toNat (s.rxLen.toNat - 3)
      let crcOk : Byte :=
        if crcBlock ((List.range s.rxLen.toNat).map s.rxByte) = 0xF0B8 then 1 else 0
      let t := { s with
        rxDone := false
        response := 0x00 :: BitVec.ofNat 8 n :: crcOk :: (List.range n).map fun k => s.rxByte (1 + k) }
      exec (.getMessage m) s = .next t ∧
      ∀ m' : Byte, exec (.getMessage m') t = .next { t with response := [0x02] })

/-- Where the model stops: a buffer index the spec never forms (20_memory.md R60 allows a fault; log entry 11), and GET_MESSAGE of
a pending message of fewer than three bytes (log entry 12). -/
def Obligations.UnformedIndicesFault : Prop :=
  (∀ (x : Bool) (s : State), s.txActive = true → s.txSample = 0 → s.txIndex < s.txLen → 68 ≤ s.txIndex.toNat →
    tick x s = .fault (.txBufIndex s.txIndex.toNat)) ∧
  (∀ (b : Byte) (s : State), 30 ≤ s.rxLen.toNat → acceptByte b s = .fault (.rxBufIndex s.rxLen.toNat)) ∧
  (∀ (m : Byte) (s : State), s.rxDone = true → 30 < s.rxLen.toNat →
    exec (.getMessage m) s = .fault (.rxBufIndex (s.rxLen.toNat - 1))) ∧
  (∀ (m : Byte) (s : State), s.rxDone = true → s.rxLen.toNat < 3 →
    exec (.getMessage m) s = .fault (.rxLenTooShort s.rxLen.toNat))

/-- SET_PTT_INVERTED writes the polarity bit and nothing else; the line moves when a TX_STOP drives it
(46_host_commands.md R221). -/
def Obligations.SetPttInvertedWritesPolarityOnly : Prop :=
  ∀ (ignored : BitVec 7) (inv : BitVec 1) (s : State),
    ∃ t, exec (.setPttInverted ignored inv) s = .next t ∧
      t = { s with pttInverted := decide (inv = 1), response := [0x00] } ∧
      ∀ imm8 : Byte, ∃ u, exec (.txStop imm8) t = .next u ∧ u.pttOut = decide (inv = 1)

/-- READ_STATUS: the counters, the flags byte bit by bit, and ILLEGAL_COMMAND for the other selectors, with no side effect
(46_host_commands.md R222). -/
def Obligations.ReadStatusReportsCountersAndFlags : Prop :=
  ∀ (sel : Byte) (s : State),
    (sel = 0 → exec (.readStatus sel) s = .next { s with response := [0x00, s.rxGood] }) ∧
    (sel = 1 → exec (.readStatus sel) s = .next { s with response := [0x00, s.rxBad] }) ∧
    (sel = 2 → exec (.readStatus sel) s = .next { s with response := [0x00, s.txMsgCount] }) ∧
    (sel = 3 → ∃ f : Byte, exec (.readStatus sel) s = .next { s with response := [0x00, f] } ∧
      f.getLsbD 0 = s.txActive ∧ f.getLsbD 1 = s.rxEnabled ∧ f.getLsbD 2 = s.rxActive ∧ f.getLsbD 3 = s.rxDone ∧
      f.getLsbD 4 = s.pttInverted ∧ f.getLsbD 5 = s.txOut ∧ f.getLsbD 6 = s.pttOut ∧ f.getLsbD 7 = false) ∧
    (4 ≤ sel.toNat → exec (.readStatus sel) s = .next { s with response := [0xFF] })

/-- What no command changes: the PLL, the receive counters and RxBuf, the event counters, the parameters; and TxBuf outside the
bytes an accepted SEND stores, all of it for every other command (46_host_commands.md R223). -/
def Obligations.CommandsLeaveTheRest : Prop :=
  ∀ (i : Instr) (s t : State), exec i s = .next t →
    SamePll s t ∧ (∀ a, t.rxByte a = s.rxByte a) ∧
    t.rxBitCount = s.rxBitCount ∧ t.rxCount = s.rxCount ∧ t.rxLen = s.rxLen ∧
    t.rxGood = s.rxGood ∧ t.rxBad = s.rxBad ∧ t.txMsgCount = s.txMsgCount ∧
    t.config = s.config ∧ t.port = s.port ∧ t.schedule = s.schedule ∧
    ((∀ d, i ≠ .send d) → t.txLen = s.txLen ∧ t.held = s.held ∧ ∀ a, t.txByte a = s.txByte a) ∧
    (∀ d, i = .send d → s.txBuf.wf →
      ∀ a, ¬ (8 ≤ a ∧ a < 8 + 2 * (d.length + 3)) → t.txByte a = s.txByte a)

/-! ### Ticks -/

/-- With the receiver disabled and the transmitter idle every tick is a no-op, so any number of them keep all state
(60_exceptions.md R266). -/
def Obligations.QuiescentBlockKeepsState : Prop :=
  ∀ (xs : List Bool) (s : State), s.rxEnabled = false → s.txActive = false → runTicks xs s = .next s

/-- A tick of the active transmitter: the sample counter is tested, then incremented; on 0 it ends the frame or emits the bit at
the cursor; nothing else changes (43_tx_state_machine.md R153, R154, R155). -/
def Obligations.TransmitTickAdvances : Prop :=
  ∀ (x : Bool) (s : State), s.txActive = true →
    (s.txSample ≠ 0 → tick x s = .next { s with txSample := BitVec.ofNat 3 ((s.txSample.toNat + 1) % 8) }) ∧
    (s.txSample = 0 → s.txLen.toNat ≤ s.txIndex.toNat → tick x s = .next { s with
      txSample := 1, txActive := false, txOut := false, pttOut := s.pttInverted
      txMsgCount := BitVec.ofNat 8 ((s.txMsgCount.toNat + 1) % 256) }) ∧
    (s.txSample = 0 → s.txIndex.toNat < s.txLen.toNat → s.txIndex.toNat < 68 → s.txBit.toNat ≤ 5 →
      tick x s = .next { s with
        txSample := 1
        txOut := (s.txByte s.txIndex.toNat).getLsbD s.txBit.toNat
        txBit := if s.txBit.toNat = 5 then 0 else BitVec.ofNat 3 (s.txBit.toNat + 1)
        txIndex := if s.txBit.toNat = 5 then BitVec.ofNat 8 (s.txIndex.toNat + 1) else s.txIndex })

/-- A tick of the receive path: integrate, advance the ramp, and on a wrap shift in the majority bit and hand it to `rx_bit`
(44_pll.md R171 to R175). -/
def Obligations.PllTickIntegratesAndWraps : Prop :=
  ∀ (x : Bool) (s : State), s.rxEnabled = true → s.txActive = false →
    s.rxRamp.toNat ≤ 159 → s.rxIntegrator.toNat < 255 →
    let gain := if x = s.rxLastSample then 20 else if s.rxRamp.toNat < 80 then 11 else 29
    let ramp := s.rxRamp.toNat + gain
    let ones := s.rxIntegrator.toNat + (if x then 1 else 0)
    (ramp < 160 → tick x s = .next { s with
      rxSample := x, rxLastSample := x, rxRamp := BitVec.ofNat 8 ramp, rxIntegrator := BitVec.ofNat 8 ones }) ∧
    (160 ≤ ramp → tick x s = rxBit { s with
      rxSample := x, rxLastSample := x, rxRamp := BitVec.ofNat 8 (ramp - 160), rxIntegrator := 0
      rxBits := BitVec.ofNat 12 (s.rxBits.toNat / 2 + if 5 ≤ ones then 2048 else 0) })

/-- While searching, the window 0xB38 starts a frame, which drops a pending message, and every other window changes nothing
(45_rx_state_machine.md R191, R192). -/
def Obligations.SearchDetectsStartPattern : Prop :=
  ∀ s : State, s.rxActive = false →
    (s.rxBits = 0xB38 → rxBit s = .next
      { s with rxActive := true, rxBitCount := 0, rxLen := 0, rxDone := false }) ∧
    (s.rxBits ≠ 0xB38 → rxBit s = .next s)

/-- Inside a frame: bits 1 to 11 of a byte only count; the twelfth aborts on an invalid symbol in strict mode, then on an illegal
first byte, and otherwise stores the byte and completes the frame at `count` bytes; with every register that each case leaves
alone (45_rx_state_machine.md R193 to R197). -/
def Obligations.AssemblyTakesTwelveBits : Prop :=
  ∀ s : State, s.rxActive = true →
    (s.rxBitCount.toNat < 11 → rxBit s = .next { s with rxBitCount := s.rxBitCount + 1 }) ∧
    (s.rxBitCount.toNat = 11 → s.rxLen.toNat < 30 → s.rxBuf.wf →
      let lo := dec6 s.config (BitVec.ofNat 6 s.rxBits.toNat)
      let hi := dec6 s.config (BitVec.ofNat 6 (s.rxBits.toNat / 64))
      let byte := 16 * hi.1.toNat + lo.1.toNat
      let strictBad := s.config.strictSymbolCheck = true ∧ (lo.2 = false ∨ hi.2 = false)
      let countBad := s.rxLen.toNat = 0 ∧ (byte < 4 ∨ 30 < byte)
      let count := if s.rxLen.toNat = 0 then byte else s.rxCount.toNat
      (strictBad ∨ countBad → rxBit s = .next
        { s with rxBitCount := 0, rxActive := false, rxBad := s.rxBad + 1 }) ∧
      (¬ strictBad → ¬ countBad → ∃ t, rxBit s = .next t ∧
        t.rxByte s.rxLen.toNat = BitVec.ofNat 8 byte ∧
        (∀ a, a ≠ s.rxLen.toNat → t.rxByte a = s.rxByte a) ∧
        t.rxLen.toNat = s.rxLen.toNat + 1 ∧ t.rxCount.toNat = count ∧ t.rxBitCount = 0 ∧ t.rxBad = s.rxBad ∧
        (s.rxLen.toNat + 1 = count → t.rxActive = false ∧ t.rxDone = true ∧ t.rxGood = s.rxGood + 1) ∧
        (s.rxLen.toNat + 1 ≠ count → t.rxActive = true ∧ t.rxDone = s.rxDone ∧ t.rxGood = s.rxGood) ∧
        SameTransmitter s t ∧ SamePll s t ∧ SameHostSide s t))

/-- A tick on which the receive path does not run changes no PLL and no receive register and does not read its sample; in
particular while transmitting (44_pll.md R178; the spec derives 47_tick.md R241 from R240). -/
def Obligations.ReceivePathFrozen : Prop :=
  ∀ (x : Bool) (s t : State), s.rxEnabled = false ∨ s.txActive = true → tick x s = .next t →
    SamePll s t ∧ SameReceiver s t ∧ t.rxEnabled = s.rxEnabled ∧ ∀ y, tick y s = .next t

/-- A tick on which the receive path runs changes no transmit register, no TxBuf byte and nothing of the host side
(47_tick.md R240). -/
def Obligations.ReceiveTickLeavesTransmitter : Prop :=
  ∀ (x : Bool) (s t : State), s.rxEnabled = true → s.txActive = false → tick x s = .next t →
    t.rxSample = x ∧ SameTransmitter s t ∧ SameHostSide s t

/-- A sample without edges yields one bit every eight ticks, equal to its level (a corner case of 44_pll.md R175), stated from a
ramp just past a wrap. -/
def Obligations.SteadyInputGivesOneBitPerEightTicks : Prop :=
  ∀ (x : Bool) (s : State), s.Inv → s.rxEnabled = true → s.txActive = false →
    s.rxLastSample = x → s.rxRamp.toNat < 20 → s.rxIntegrator = 0 →
    ∃ t, runTicks (List.replicate 8 x) s = .next t ∧
      t.rxRamp = s.rxRamp ∧ t.rxIntegrator = 0 ∧ t.rxLastSample = x ∧
      t.rxBits.toNat = s.rxBits.toNat / 2 + (if x then 2048 else 0)

/-! ### Whole transmissions and receptions -/

/-- Transmit timing: after a TX_START, with `N = 6·tx_len` bits, bit j is on `tx_out` from tick `8j + 1` through tick `8j + 8`
and the frame ends at tick `8N + 1`, where PTT is deasserted and the frame is counted (43_tx_state_machine.md R156, which the spec
derives from R151 and R153 to R155). -/
def Obligations.TransmitTiming : Prop :=
  ∀ (imm8 : Byte) (s₀ s : State) (xs : List Bool),
    exec (.txStart imm8) s₀ = .next s → s₀.txLen.toNat ≤ 68 →
    let n := 6 * s₀.txLen.toNat
    (1 ≤ xs.length → xs.length ≤ 8 * n →
      let j := (xs.length - 1) / 8
      ∃ t, runTicks xs s = .next t ∧ t.txActive = true ∧
        t.txOut = (s.txByte (j / 6)).getLsbD (j % 6) ∧
        t.pttOut = s.pttOut ∧ t.txMsgCount = s.txMsgCount ∧ ∀ a, t.txByte a = s.txByte a) ∧
    (xs.length = 8 * n + 1 →
      ∃ t, runTicks xs s = .next t ∧ t.txActive = false ∧ t.txOut = false ∧ t.pttOut = s.pttInverted ∧
        t.txMsgCount = s.txMsgCount + 1 ∧ ∀ a, t.txByte a = s.txByte a)

/-- An accepted SEND puts its frame on the line: the header, then the symbols of count, payload and FCS, bit 0 of each first, eight
ticks to a bit (30_encoding.md R90, with 43_tx_state_machine.md R156). -/
def Obligations.SendPutsFrameOnTheLine : Prop :=
  ∀ (p : List Byte) (s : State) (xs : List Bool), p.length ≤ 27 → s.txActive = false → s.txBuf.wf →
    let line := lineSamples (wireBits (header ++ frameSymbols s.config p))
    ∃ s₁, exec (.send p) s = .next s₁ ∧
      (1 ≤ xs.length → xs.length ≤ line.length →
        ∃ t, runTicks xs s₁ = .next t ∧ t.txActive = true ∧ t.txOut = line.getD (xs.length - 1) false ∧
          t.pttOut = !s.pttInverted) ∧
      (xs.length = line.length + 1 →
        ∃ t, runTicks xs s₁ = .next t ∧ t.txActive = false ∧ t.txMsgCount = s.txMsgCount + 1)

/-- The frame decoder is the inverse of the frame encoder: the recovered bits of a whole frame, header and all, give exactly one good
frame, and GET_MESSAGE returns the payload with `crc_ok = 1`, for every admissible table and in strict mode too
(42_frame_codec.md R134, and R135 which the spec derives). -/
def Obligations.RecoveredFrameRoundTrips : Prop :=
  ∀ (p : List Byte) (s : State), 1 ≤ p.length → p.length ≤ 27 → s.config.Admissible → s.rxBuf.wf →
    s.rxActive = false → s.rxBits = 0 →
    ∃ t, recoverBits (wireBits (header ++ frameSymbols s.config p)) s = .next t ∧
      t.rxDone = true ∧ t.rxActive = false ∧ t.rxGood = s.rxGood + 1 ∧ t.rxBad = s.rxBad ∧
      ∀ m : Byte, p.length ≤ m.toNat → ∃ u, exec (.getMessage m) t = .next u ∧
        u.response = 0x00 :: BitVec.ofNat 8 p.length :: 0x01 :: p

/-- An empty payload is never delivered: its count 3 is below the receiver's minimum, the frame is discarded and counted
(42_frame_codec.md R131's corner case; 90_conflicts.md C1). -/
def Obligations.EmptyFrameIsDiscarded : Prop :=
  ∀ s : State, s.config.Admissible → s.rxActive = false → s.rxBits = 0 →
    ∃ t, recoverBits ((wireBits (header ++ frameSymbols s.config [])).take 60) s = .next t ∧
      t.rxActive = false ∧ t.rxDone = false ∧ t.rxBad = s.rxBad + 1 ∧ t.rxGood = s.rxGood ∧ t.rxCount = s.rxCount

/-- The loopback: a receiver started from reset, after any number of idle ticks, fed the samples of a frame of 1 to 27 payload bytes and
at least one idle tick, completes exactly one frame and delivers the payload with `crc_ok = 1` (42_frame_codec.md R135, which the
spec derives). -/
def Obligations.LoopbackDeliversPayload : Prop :=
  ∀ (c : Config) (imm8 : Byte) (p : List Byte) (idle tail : Nat),
    c.Admissible → 1 ≤ p.length → p.length ≤ 27 → 1 ≤ tail →
    ∃ s t, exec (.rxStart imm8) { State.reset with config := c } = .next s ∧
      runTicks (List.replicate idle false ++ lineSamples (wireBits (header ++ frameSymbols c p)) ++
        List.replicate tail false) s = .next t ∧
      t.rxDone = true ∧ t.rxGood = 1 ∧ t.rxBad = 0 ∧
      ∀ m : Byte, p.length ≤ m.toNat → ∃ u, exec (.getMessage m) t = .next u ∧
        u.response = 0x00 :: BitVec.ofNat 8 p.length :: 0x01 :: p

/-- The transmitter returns to idle after exactly the ticks its cursor leaves, whatever the samples, and never earlier (60_exceptions.md
R260, which the spec derives). -/
def Obligations.TransmitterReturnsToIdle : Prop :=
  ∀ (s : State) (xs : List Bool), s.Inv → s.txActive = true →
    let left := (8 - s.txSample.toNat) % 8 +
      8 * (6 * (s.txLen.toNat - s.txIndex.toNat) - s.txBit.toNat) + 1
    left ≤ 3272 ∧
    (xs.length < left → ∃ t, runTicks xs s = .next t ∧ t.txActive = true) ∧
    (xs.length = left → ∃ t, runTicks xs s = .next t ∧ t.txActive = false)

/-- A receiver inside a frame whose path runs leaves the frame within 144 ticks for each byte that could still come, whatever the
samples (60_exceptions.md R260, which the spec derives). -/
def Obligations.ReceiverLeavesFrame : Prop :=
  ∀ (s : State) (xs : List Bool), s.Inv → s.rxEnabled = true → s.txActive = false → s.rxActive = true →
    (30 - s.rxLen.toNat) * 144 ≤ xs.length →
    ∃ k t, k ≤ (30 - s.rxLen.toNat) * 144 ∧ runTicks (xs.take k) s = .next t ∧ t.rxActive = false

/-- A held SEND completes: with enough ticks on the schedule it is accepted within 3273 steps, and then answers OK with the transmitter
active from the start of its frame (46_host_commands.md R212; the bound follows 60_exceptions.md R260, and `held` is the model's,
log entry 2). -/
def Obligations.HeldSendCompletes : Prop :=
  ∀ (s : State) (d : List Byte) (xs : List Bool) (q : List Turn),
    s.Inv → s.held = some d → s.txActive = true →
    s.schedule = xs.map Turn.tick ++ q → 3272 ≤ xs.length →
    ∃ k t, k ≤ 3273 ∧ Sys2Proof.core.run k s = .next t ∧ t.held = none ∧ t.txActive = true ∧
      t.txIndex = 0 ∧ t.txBit = 0 ∧ t.txSample = 0 ∧ t.txLen.toNat = 8 + 2 * (d.length + 3) ∧ t.response = [0x00]

/-! ### Invariants and whole-machine rules -/

/-- The invariants of 10_state.md R52 hold after reset. -/
def Obligations.ResetStateMeetsInvariants : Prop := State.reset.Inv ∧ State.reset.PttFollows

/-- Every step keeps the invariants of 10_state.md R52 (which the spec derives). -/
def Obligations.StepKeepsInvariants : Prop :=
  ∀ s t : State, s.Inv → step s = .next t → t.Inv

/-- No state that meets the invariants stops: there is no fatal error path in the block (60_exceptions.md R250). -/
def Obligations.NoFatalErrorPath : Prop :=
  ∀ s : State, s.Inv → ∃ t, step s = .next t

/-- PTT follows the transmit state under the configured polarity, until a command writes the polarity: that step moves neither the line
nor the transmit state (10_state.md R52 item 4, which the spec derives; R32). -/
def Obligations.PttFollowsTransmitState : Prop :=
  ∀ s t : State, s.PttFollows → step s = .next t →
    t.PttFollows ∨ (t.pttInverted ≠ s.pttInverted ∧ t.pttOut = s.pttOut ∧ t.txActive = s.txActive)

/-- The bytes of RxBuf that the current frame has not written never matter: two states that differ only there take steps to states
that differ only there, with equal responses, outputs and stops (70_reset_and_hazards.md R282, which the spec derives). -/
def Obligations.UnwrittenRxBytesNeverMatter : Prop :=
  ∀ s t : State, s.rxBuf.wf → t.rxBuf.wf → AgreeOnFrame s t →
    (∀ s', step s = .next s' → ∃ t', step t = .next t' ∧ AgreeOnFrame s' t') ∧
    (∀ f, step s = .fault f → step t = .fault f)

/-- While a message stays pending its length and bytes are stable (20_memory.md R71, which the spec derives). -/
def Obligations.PendingMessageIsStable : Prop :=
  ∀ s t : State, s.Inv → step s = .next t → s.rxDone = true → t.rxDone = true →
    t.rxLen = s.rxLen ∧ t.rxCount = s.rxCount ∧ ∀ a, t.rxByte a = s.rxByte a

/-- While the transmitter is active no step but a reset changes TxBuf or `tx_len` (20_memory.md R72, which the spec derives). -/
def Obligations.FrameInFlightIsStable : Prop :=
  ∀ s t : State, step s = .next t → s.txActive = true → (∀ q, s.schedule ≠ .reset :: q) →
    t.txLen = s.txLen ∧ ∀ a, t.txByte a = s.txByte a

/-- No step writes the symbol table or the strict-check parameter (10_state.md R49; 40_symbol_codec.md R110 (d)). -/
def Obligations.ParametersNeverChange : Prop :=
  ∀ s t : State, step s = .next t → t.config = s.config

/-- Only RX_START and RX_STOP write `rx_enabled`, apart from reset (10_state.md R24). -/
def Obligations.OnlyRxCommandsWriteEnable : Prop :=
  ∀ s t : State, step s = .next t → t.rxEnabled ≠ s.rxEnabled →
    (∃ q, s.schedule = .reset :: q) ∨
    (∃ q i rest, s.schedule = .host :: q ∧ decode s.port = .ok (i, rest) ∧
      ((t.rxEnabled = true ∧ ∃ imm8, i = .rxStart imm8) ∨ (t.rxEnabled = false ∧ ∃ imm8, i = .rxStop imm8)))

/-- Only SET_PTT_INVERTED writes `ptt_inverted`, apart from reset, and it does not move `ptt_out` (10_state.md R23). -/
def Obligations.OnlySetPttInvertedWritesPolarity : Prop :=
  ∀ s t : State, step s = .next t → t.pttInverted ≠ s.pttInverted →
    (∃ q, s.schedule = .reset :: q) ∨
    (∃ q ignored inv rest, s.schedule = .host :: q ∧ decode s.port = .ok (.setPttInverted ignored inv, rest) ∧
      t.pttInverted = decide (inv = 1) ∧ t.pttOut = s.pttOut)

/-- Every change of the transmit state is one of the table's: an accepted SEND or TX_START starts it, the end of the frame or TX_STOP
ends it, and reset (43_tx_state_machine.md R150). -/
def Obligations.TransmitStateTransitions : Prop :=
  ∀ s t : State, step s = .next t → t.txActive ≠ s.txActive →
    (∃ q, s.schedule = .reset :: q) ∨
    (t.txActive = true ∧ ∃ d, s.held = some d ∧ d.length ≤ 27) ∨
    (t.txActive = true ∧ ∃ q i rest, s.schedule = .host :: q ∧ decode s.port = .ok (i, rest) ∧
      ((∃ d, i = .send d ∧ d.length ≤ 27) ∨ ∃ imm8, i = .txStart imm8)) ∨
    (t.txActive = false ∧ ∃ q imm8 rest, s.schedule = .host :: q ∧ decode s.port = .ok (.txStop imm8, rest)) ∨
    (t.txActive = false ∧ ∃ x q, s.schedule = .tick x :: q ∧ s.txSample = 0 ∧ s.txLen.toNat ≤ s.txIndex.toNat)

/-- Every change of the pending-message flag: a completed frame sets it, a start detection or GET_MESSAGE clears it, and reset
(10_state.md R44). -/
def Obligations.PendingFlagTransitions : Prop :=
  ∀ s t : State, step s = .next t → t.rxDone ≠ s.rxDone →
    (∃ q, s.schedule = .reset :: q) ∨
    (t.rxDone = true ∧ (∃ x q, s.schedule = .tick x :: q) ∧ s.rxEnabled = true ∧ s.txActive = false ∧
      s.rxActive = true ∧ t.rxActive = false ∧ t.rxLen = t.rxCount ∧ t.rxGood = s.rxGood + 1) ∨
    (t.rxDone = false ∧ (∃ x q, s.schedule = .tick x :: q) ∧ s.rxEnabled = true ∧ s.txActive = false ∧
      s.rxActive = false ∧ t.rxActive = true ∧ t.rxBits = 0xB38 ∧ t.rxLen = 0) ∨
    (t.rxDone = false ∧ ∃ q m rest, s.schedule = .host :: q ∧ decode s.port = .ok (.getMessage m, rest))

/-- The sent-message counter counts ends of frames and nothing else, modulo 256 (10_state.md R33; 43_tx_state_machine.md R155). -/
def Obligations.SentCounterCountsFrameEnds : Prop :=
  ∀ s t : State, step s = .next t → t.txMsgCount ≠ s.txMsgCount →
    (∃ q, s.schedule = .reset :: q) ∨
    ((∃ x q, s.schedule = .tick x :: q) ∧ s.txActive = true ∧ s.txSample = 0 ∧
      s.txLen.toNat ≤ s.txIndex.toNat ∧ t.txActive = false ∧
      t.txMsgCount.toNat = (s.txMsgCount.toNat + 1) % 256)

/-- The good-frame counter counts completed frames and nothing else, modulo 256 (10_state.md R45; 45_rx_state_machine.md R197). -/
def Obligations.GoodCounterCountsCompletions : Prop :=
  ∀ s t : State, step s = .next t → t.rxGood ≠ s.rxGood →
    (∃ q, s.schedule = .reset :: q) ∨
    ((∃ x q, s.schedule = .tick x :: q) ∧ s.rxActive = true ∧ t.rxActive = false ∧ t.rxDone = true ∧
      t.rxLen = t.rxCount ∧ t.rxBad = s.rxBad ∧ t.rxGood.toNat = (s.rxGood.toNat + 1) % 256)

/-- The bad-frame counter counts aborts and nothing else, modulo 256, and an abort stores nothing (10_state.md R46;
45_rx_state_machine.md R194, R195). -/
def Obligations.BadCounterCountsAborts : Prop :=
  ∀ s t : State, step s = .next t → t.rxBad ≠ s.rxBad →
    (∃ q, s.schedule = .reset :: q) ∨
    ((∃ x q, s.schedule = .tick x :: q) ∧ s.rxActive = true ∧ t.rxActive = false ∧ t.rxDone = s.rxDone ∧
      t.rxLen = s.rxLen ∧ t.rxCount = s.rxCount ∧ t.rxGood = s.rxGood ∧ (∀ a, t.rxByte a = s.rxByte a) ∧
      t.rxBad.toNat = (s.rxBad.toNat + 1) % 256 ∧
      (s.config.strictSymbolCheck = false → s.rxLen = 0))
end

