-- ==== Sys2Proof/Laws/Memory.lean ====
section
/-! SUPPORT. The laws of the buffers: a read after a write, and the canonical form. -/

namespace Sys2Proof.Machine.Memory

@[simp] theorem read_nil (a : Nat) : read [] a = unlisted := rfl

theorem read_of_below {m : Memory} {a : Nat} (h : ∀ x ∈ m, a < x.1) : read m a = unlisted := by
  induction m with
  | nil => rfl
  | cons x m ih =>
    have hx : a < x.1 := h x (by simp)
    rw [read, if_neg (by omega)]
    exact ih fun y hy => h y (by simp [hy])

theorem read_cons_of_below {m : Memory} {a : Nat} (h : ∀ x ∈ m, a < x.1) (v : Byte) (b : Nat) :
    read (cons a v m) b = if b = a then v else read m b := by
  unfold cons
  by_cases hv : v = unlisted
  · rw [if_pos hv]
    by_cases hb : b = a
    · rw [if_pos hb, hb, hv, read_of_below h]
    · rw [if_neg hb]
  · rw [if_neg hv, read]
    by_cases hb : a = b
    · rw [if_pos hb, if_pos hb.symm]
    · rw [if_neg hb, if_neg (Ne.symm hb)]

theorem wf_tail {x : Host.Cell} {m : Memory} (h : wf (x :: m)) : wf m :=
  ⟨h.1.tail, fun y hy => h.2 y (by simp [hy])⟩

theorem head_below {x : Host.Cell} {m : Memory} (h : wf (x :: m)) : ∀ y ∈ m, x.1 < y.1 :=
  (List.pairwise_cons.mp h.1).1

/-- A read after a write: the written byte at its index, every other byte as before. -/
theorem read_write {m : Memory} (h : wf m) (a : Nat) (v : Byte) (b : Nat) :
    read (write m a v) b = if b = a then v else read m b := by
  induction m with
  | nil => exact read_cons_of_below (by simp) v b
  | cons x m ih =>
    obtain ⟨k, w⟩ := x
    have hk := head_below h
    rw [write]
    split
    · rename_i hak
      refine read_cons_of_below ?_ v b
      intro y hy
      rcases List.mem_cons.mp hy with rfl | hy
      · exact hak
      · exact lt_trans hak (hk y hy)
    · split
      · rename_i _ hak
        subst hak
        rw [read_cons_of_below hk v b, read]
        by_cases hb : b = a
        · rw [if_pos hb, if_pos hb]
        · rw [if_neg hb, if_neg hb, if_neg (Ne.symm hb)]
      · rename_i hlt hne
        rw [read, read, ih (wf_tail h)]
        by_cases hkb : k = b
        · rw [if_pos hkb, if_pos hkb, if_neg (by omega)]
        · rw [if_neg hkb, if_neg hkb]

/-- The cells of a write are the written one and old ones. -/
theorem mem_write {m : Memory} {a : Nat} {v : Byte} {x : Host.Cell} (h : x ∈ write m a v) :
    x = (a, v) ∨ x ∈ m := by
  induction m with
  | nil =>
    unfold write cons at h
    split at h <;> simp_all
  | cons y m ih =>
    obtain ⟨k, w⟩ := y
    unfold write cons at h
    grind

theorem wf_cons {m : Memory} {a : Nat} (h : wf m) (hb : ∀ x ∈ m, a < x.1) (v : Byte) : wf (cons a v m) := by
  unfold cons
  split
  · exact h
  · rename_i hv
    refine ⟨List.pairwise_cons.mpr ⟨hb, h.1⟩, ?_⟩
    intro x hx
    rcases List.mem_cons.mp hx with rfl | hx
    · exact hv
    · exact h.2 x hx

/-- A write keeps the canonical form. -/
theorem wf_write {m : Memory} (h : wf m) (a : Nat) (v : Byte) : wf (write m a v) := by
  induction m with
  | nil => exact wf_cons h (by simp) v
  | cons x m ih =>
    obtain ⟨k, w⟩ := x
    have hk := head_below h
    rw [write]
    split
    · rename_i hak
      refine wf_cons h ?_ v
      intro y hy
      rcases List.mem_cons.mp hy with rfl | hy
      · exact hak
      · exact lt_trans hak (hk y hy)
    · split
      · rename_i _ hak
        subst hak
        exact wf_cons (wf_tail h) hk v
      · rename_i hlt hne
        have ih' := ih (wf_tail h)
        refine ⟨List.pairwise_cons.mpr ⟨?_, ih'.1⟩, ?_⟩
        · intro y hy
          rcases mem_write hy with rfl | hy
          · show k < a
            omega
          · exact hk y hy
        · intro y hy
          rcases List.mem_cons.mp hy with rfl | hy
          · exact h.2 _ (by simp)
          · exact ih'.2 y hy

/-- Consecutive writes keep the canonical form. -/
theorem wf_writeFrom {m : Memory} (h : wf m) (a : Nat) (vs : List Byte) : wf (writeFrom m a vs) := by
  induction vs generalizing m a with
  | nil => exact h
  | cons v vs ih => exact ih (wf_write h a v) (a + 1)

/-- A read after consecutive writes. -/
theorem read_writeFrom {m : Memory} (h : wf m) (a : Nat) (vs : List Byte) (b : Nat) :
    read (writeFrom m a vs) b =
      if a ≤ b ∧ b < a + vs.length then vs.getD (b - a) 0 else read m b := by
  induction vs generalizing m a with
  | nil =>
    rw [writeFrom, if_neg]
    simp only [List.length_nil]
    omega
  | cons v vs ih =>
    rw [writeFrom, ih (wf_write h a v), read_write h, List.length_cons]
    by_cases hb : b = a
    · subst hb
      rw [if_neg (by omega), if_pos rfl, if_pos (by omega)]
      simp
    · by_cases hlt : a + 1 ≤ b ∧ b < a + 1 + vs.length
      · rw [if_pos hlt, if_pos (by omega)]
        obtain ⟨k, hk⟩ : ∃ k, b - a = k + 1 := ⟨b - a - 1, by omega⟩
        rw [hk, show b - (a + 1) = k by omega]
        simp
      · rw [if_neg hlt, if_neg hb, if_neg (by omega)]

/-- The cells of consecutive writes are the written ones and old ones. -/
theorem mem_writeFrom {m : Memory} {a : Nat} {vs : List Byte} {x : Host.Cell} (h : x ∈ writeFrom m a vs) :
    (a ≤ x.1 ∧ x.1 < a + vs.length ∧ x.2 ∈ vs) ∨ x ∈ m := by
  induction vs generalizing m a with
  | nil => exact .inr h
  | cons v vs ih =>
    rcases ih h with ⟨h₁, h₂, h₃⟩ | hx
    · exact .inl ⟨by omega, by rw [List.length_cons]; omega, by simp [h₃]⟩
    · rcases mem_write hx with rfl | hx
      · exact .inl ⟨le_refl _, by simp, by simp⟩
      · exact .inr hx

/-- Equal reads of canonical buffers mean equal buffers. -/
theorem ext_of_wf {m n : Memory} (hm : wf m) (hn : wf n) (h : ∀ a, read m a = read n a) : m = n := by
  induction m generalizing n with
  | nil =>
    cases n with
    | nil => rfl
    | cons y n =>
      have hy := h y.1
      rw [read_nil, read, if_pos rfl] at hy
      exact absurd hy.symm (hn.2 y (by simp))
  | cons x m ih =>
    cases n with
    | nil =>
      have hx := h x.1
      rw [read_nil, read, if_pos rfl] at hx
      exact absurd hx (hm.2 x (by simp))
    | cons y n =>
      obtain ⟨k, w⟩ := x
      obtain ⟨l, u⟩ := y
      have hk := head_below hm
      have hl := head_below hn
      have below : ∀ {p : Nat} {v : Byte} {q : Memory}, wf ((p, v) :: q) → ∀ a, a < p → read ((p, v) :: q) a = unlisted := by
        intro p v q hq a ha
        refine read_of_below ?_
        intro z hz
        rcases List.mem_cons.mp hz with rfl | hz
        · exact ha
        · exact lt_trans ha (head_below hq z hz)
      have hkl : k = l := by
        rcases Nat.lt_trichotomy k l with hlt | heq | hgt
        · have := h k
          rw [below hn k hlt, read, if_pos rfl] at this
          exact absurd this (hm.2 (k, w) (by simp))
        · exact heq
        · have := h l
          rw [below hm l hgt, read, if_pos rfl] at this
          exact absurd this.symm (hn.2 (l, u) (by simp))
      subst hkl
      have hwu : w = u := by simpa [read] using h k
      subst hwu
      congr 1
      refine ih (wf_tail hm) (wf_tail hn) fun a => ?_
      by_cases ha : a = k
      · subst ha
        rw [read_of_below hk, read_of_below hl]
      · have := h a
        rwa [read, read, if_neg (Ne.symm ha), if_neg (Ne.symm ha)] at this

end Sys2Proof.Machine.Memory
end

