-- ==== Sys2Proof/Laws/State.lean ====
section
/-! SUPPORT. What each named update of the state does to each field. -/

namespace Sys2Proof.Machine

/-! ### respond -/

@[simp] theorem respond_config (c : ResultCode) (d : List Byte) (s : State) : (respond c d s).config = s.config := rfl
@[simp] theorem respond_pttInverted (c : ResultCode) (d : List Byte) (s : State) : (respond c d s).pttInverted = s.pttInverted := rfl
@[simp] theorem respond_rxEnabled (c : ResultCode) (d : List Byte) (s : State) : (respond c d s).rxEnabled = s.rxEnabled := rfl
@[simp] theorem respond_txActive (c : ResultCode) (d : List Byte) (s : State) : (respond c d s).txActive = s.txActive := rfl
@[simp] theorem respond_txBuf (c : ResultCode) (d : List Byte) (s : State) : (respond c d s).txBuf = s.txBuf := rfl
@[simp] theorem respond_txLen (c : ResultCode) (d : List Byte) (s : State) : (respond c d s).txLen = s.txLen := rfl
@[simp] theorem respond_txIndex (c : ResultCode) (d : List Byte) (s : State) : (respond c d s).txIndex = s.txIndex := rfl
@[simp] theorem respond_txBit (c : ResultCode) (d : List Byte) (s : State) : (respond c d s).txBit = s.txBit := rfl
@[simp] theorem respond_txSample (c : ResultCode) (d : List Byte) (s : State) : (respond c d s).txSample = s.txSample := rfl
@[simp] theorem respond_txOut (c : ResultCode) (d : List Byte) (s : State) : (respond c d s).txOut = s.txOut := rfl
@[simp] theorem respond_pttOut (c : ResultCode) (d : List Byte) (s : State) : (respond c d s).pttOut = s.pttOut := rfl
@[simp] theorem respond_txMsgCount (c : ResultCode) (d : List Byte) (s : State) : (respond c d s).txMsgCount = s.txMsgCount := rfl
@[simp] theorem respond_rxSample (c : ResultCode) (d : List Byte) (s : State) : (respond c d s).rxSample = s.rxSample := rfl
@[simp] theorem respond_rxLastSample (c : ResultCode) (d : List Byte) (s : State) : (respond c d s).rxLastSample = s.rxLastSample := rfl
@[simp] theorem respond_rxRamp (c : ResultCode) (d : List Byte) (s : State) : (respond c d s).rxRamp = s.rxRamp := rfl
@[simp] theorem respond_rxIntegrator (c : ResultCode) (d : List Byte) (s : State) : (respond c d s).rxIntegrator = s.rxIntegrator := rfl
@[simp] theorem respond_rxBits (c : ResultCode) (d : List Byte) (s : State) : (respond c d s).rxBits = s.rxBits := rfl
@[simp] theorem respond_rxBitCount (c : ResultCode) (d : List Byte) (s : State) : (respond c d s).rxBitCount = s.rxBitCount := rfl
@[simp] theorem respond_rxActive (c : ResultCode) (d : List Byte) (s : State) : (respond c d s).rxActive = s.rxActive := rfl
@[simp] theorem respond_rxBuf (c : ResultCode) (d : List Byte) (s : State) : (respond c d s).rxBuf = s.rxBuf := rfl
@[simp] theorem respond_rxCount (c : ResultCode) (d : List Byte) (s : State) : (respond c d s).rxCount = s.rxCount := rfl
@[simp] theorem respond_rxLen (c : ResultCode) (d : List Byte) (s : State) : (respond c d s).rxLen = s.rxLen := rfl
@[simp] theorem respond_rxDone (c : ResultCode) (d : List Byte) (s : State) : (respond c d s).rxDone = s.rxDone := rfl
@[simp] theorem respond_rxGood (c : ResultCode) (d : List Byte) (s : State) : (respond c d s).rxGood = s.rxGood := rfl
@[simp] theorem respond_rxBad (c : ResultCode) (d : List Byte) (s : State) : (respond c d s).rxBad = s.rxBad := rfl
@[simp] theorem respond_response (c : ResultCode) (d : List Byte) (s : State) : (respond c d s).response = c.byte :: d := rfl
@[simp] theorem respond_held (c : ResultCode) (d : List Byte) (s : State) : (respond c d s).held = s.held := rfl
@[simp] theorem respond_port (c : ResultCode) (d : List Byte) (s : State) : (respond c d s).port = s.port := rfl
@[simp] theorem respond_schedule (c : ResultCode) (d : List Byte) (s : State) : (respond c d s).schedule = s.schedule := rfl

/-! ### hold -/

@[simp] theorem hold_config (d : List Byte) (s : State) : (hold d s).config = s.config := rfl
@[simp] theorem hold_pttInverted (d : List Byte) (s : State) : (hold d s).pttInverted = s.pttInverted := rfl
@[simp] theorem hold_rxEnabled (d : List Byte) (s : State) : (hold d s).rxEnabled = s.rxEnabled := rfl
@[simp] theorem hold_txActive (d : List Byte) (s : State) : (hold d s).txActive = s.txActive := rfl
@[simp] theorem hold_txBuf (d : List Byte) (s : State) : (hold d s).txBuf = s.txBuf := rfl
@[simp] theorem hold_txLen (d : List Byte) (s : State) : (hold d s).txLen = s.txLen := rfl
@[simp] theorem hold_txIndex (d : List Byte) (s : State) : (hold d s).txIndex = s.txIndex := rfl
@[simp] theorem hold_txBit (d : List Byte) (s : State) : (hold d s).txBit = s.txBit := rfl
@[simp] theorem hold_txSample (d : List Byte) (s : State) : (hold d s).txSample = s.txSample := rfl
@[simp] theorem hold_txOut (d : List Byte) (s : State) : (hold d s).txOut = s.txOut := rfl
@[simp] theorem hold_pttOut (d : List Byte) (s : State) : (hold d s).pttOut = s.pttOut := rfl
@[simp] theorem hold_txMsgCount (d : List Byte) (s : State) : (hold d s).txMsgCount = s.txMsgCount := rfl
@[simp] theorem hold_rxSample (d : List Byte) (s : State) : (hold d s).rxSample = s.rxSample := rfl
@[simp] theorem hold_rxLastSample (d : List Byte) (s : State) : (hold d s).rxLastSample = s.rxLastSample := rfl
@[simp] theorem hold_rxRamp (d : List Byte) (s : State) : (hold d s).rxRamp = s.rxRamp := rfl
@[simp] theorem hold_rxIntegrator (d : List Byte) (s : State) : (hold d s).rxIntegrator = s.rxIntegrator := rfl
@[simp] theorem hold_rxBits (d : List Byte) (s : State) : (hold d s).rxBits = s.rxBits := rfl
@[simp] theorem hold_rxBitCount (d : List Byte) (s : State) : (hold d s).rxBitCount = s.rxBitCount := rfl
@[simp] theorem hold_rxActive (d : List Byte) (s : State) : (hold d s).rxActive = s.rxActive := rfl
@[simp] theorem hold_rxBuf (d : List Byte) (s : State) : (hold d s).rxBuf = s.rxBuf := rfl
@[simp] theorem hold_rxCount (d : List Byte) (s : State) : (hold d s).rxCount = s.rxCount := rfl
@[simp] theorem hold_rxLen (d : List Byte) (s : State) : (hold d s).rxLen = s.rxLen := rfl
@[simp] theorem hold_rxDone (d : List Byte) (s : State) : (hold d s).rxDone = s.rxDone := rfl
@[simp] theorem hold_rxGood (d : List Byte) (s : State) : (hold d s).rxGood = s.rxGood := rfl
@[simp] theorem hold_rxBad (d : List Byte) (s : State) : (hold d s).rxBad = s.rxBad := rfl
@[simp] theorem hold_response (d : List Byte) (s : State) : (hold d s).response = s.response := rfl
@[simp] theorem hold_held (d : List Byte) (s : State) : (hold d s).held = some d := rfl
@[simp] theorem hold_port (d : List Byte) (s : State) : (hold d s).port = s.port := rfl
@[simp] theorem hold_schedule (d : List Byte) (s : State) : (hold d s).schedule = s.schedule := rfl

/-! ### txStart -/

@[simp] theorem txStart_config (s : State) : (txStart s).config = s.config := rfl
@[simp] theorem txStart_pttInverted (s : State) : (txStart s).pttInverted = s.pttInverted := rfl
@[simp] theorem txStart_rxEnabled (s : State) : (txStart s).rxEnabled = s.rxEnabled := rfl
@[simp] theorem txStart_txActive (s : State) : (txStart s).txActive = true := rfl
@[simp] theorem txStart_txBuf (s : State) : (txStart s).txBuf = s.txBuf := rfl
@[simp] theorem txStart_txLen (s : State) : (txStart s).txLen = s.txLen := rfl
@[simp] theorem txStart_txIndex (s : State) : (txStart s).txIndex = 0 := rfl
@[simp] theorem txStart_txBit (s : State) : (txStart s).txBit = 0 := rfl
@[simp] theorem txStart_txSample (s : State) : (txStart s).txSample = 0 := rfl
@[simp] theorem txStart_txOut (s : State) : (txStart s).txOut = s.txOut := rfl
@[simp] theorem txStart_pttOut (s : State) : (txStart s).pttOut = (true ^^ s.pttInverted) := rfl
@[simp] theorem txStart_txMsgCount (s : State) : (txStart s).txMsgCount = s.txMsgCount := rfl
@[simp] theorem txStart_rxSample (s : State) : (txStart s).rxSample = s.rxSample := rfl
@[simp] theorem txStart_rxLastSample (s : State) : (txStart s).rxLastSample = s.rxLastSample := rfl
@[simp] theorem txStart_rxRamp (s : State) : (txStart s).rxRamp = s.rxRamp := rfl
@[simp] theorem txStart_rxIntegrator (s : State) : (txStart s).rxIntegrator = s.rxIntegrator := rfl
@[simp] theorem txStart_rxBits (s : State) : (txStart s).rxBits = s.rxBits := rfl
@[simp] theorem txStart_rxBitCount (s : State) : (txStart s).rxBitCount = s.rxBitCount := rfl
@[simp] theorem txStart_rxActive (s : State) : (txStart s).rxActive = s.rxActive := rfl
@[simp] theorem txStart_rxBuf (s : State) : (txStart s).rxBuf = s.rxBuf := rfl
@[simp] theorem txStart_rxCount (s : State) : (txStart s).rxCount = s.rxCount := rfl
@[simp] theorem txStart_rxLen (s : State) : (txStart s).rxLen = s.rxLen := rfl
@[simp] theorem txStart_rxDone (s : State) : (txStart s).rxDone = s.rxDone := rfl
@[simp] theorem txStart_rxGood (s : State) : (txStart s).rxGood = s.rxGood := rfl
@[simp] theorem txStart_rxBad (s : State) : (txStart s).rxBad = s.rxBad := rfl
@[simp] theorem txStart_response (s : State) : (txStart s).response = s.response := rfl
@[simp] theorem txStart_held (s : State) : (txStart s).held = s.held := rfl
@[simp] theorem txStart_port (s : State) : (txStart s).port = s.port := rfl
@[simp] theorem txStart_schedule (s : State) : (txStart s).schedule = s.schedule := rfl

/-! ### txStop -/

@[simp] theorem txStop_config (s : State) : (txStop s).config = s.config := rfl
@[simp] theorem txStop_pttInverted (s : State) : (txStop s).pttInverted = s.pttInverted := rfl
@[simp] theorem txStop_rxEnabled (s : State) : (txStop s).rxEnabled = s.rxEnabled := rfl
@[simp] theorem txStop_txActive (s : State) : (txStop s).txActive = false := rfl
@[simp] theorem txStop_txBuf (s : State) : (txStop s).txBuf = s.txBuf := rfl
@[simp] theorem txStop_txLen (s : State) : (txStop s).txLen = s.txLen := rfl
@[simp] theorem txStop_txIndex (s : State) : (txStop s).txIndex = s.txIndex := rfl
@[simp] theorem txStop_txBit (s : State) : (txStop s).txBit = s.txBit := rfl
@[simp] theorem txStop_txSample (s : State) : (txStop s).txSample = s.txSample := rfl
@[simp] theorem txStop_txOut (s : State) : (txStop s).txOut = false := rfl
@[simp] theorem txStop_pttOut (s : State) : (txStop s).pttOut = (false ^^ s.pttInverted) := rfl
@[simp] theorem txStop_txMsgCount (s : State) : (txStop s).txMsgCount = s.txMsgCount := rfl
@[simp] theorem txStop_rxSample (s : State) : (txStop s).rxSample = s.rxSample := rfl
@[simp] theorem txStop_rxLastSample (s : State) : (txStop s).rxLastSample = s.rxLastSample := rfl
@[simp] theorem txStop_rxRamp (s : State) : (txStop s).rxRamp = s.rxRamp := rfl
@[simp] theorem txStop_rxIntegrator (s : State) : (txStop s).rxIntegrator = s.rxIntegrator := rfl
@[simp] theorem txStop_rxBits (s : State) : (txStop s).rxBits = s.rxBits := rfl
@[simp] theorem txStop_rxBitCount (s : State) : (txStop s).rxBitCount = s.rxBitCount := rfl
@[simp] theorem txStop_rxActive (s : State) : (txStop s).rxActive = s.rxActive := rfl
@[simp] theorem txStop_rxBuf (s : State) : (txStop s).rxBuf = s.rxBuf := rfl
@[simp] theorem txStop_rxCount (s : State) : (txStop s).rxCount = s.rxCount := rfl
@[simp] theorem txStop_rxLen (s : State) : (txStop s).rxLen = s.rxLen := rfl
@[simp] theorem txStop_rxDone (s : State) : (txStop s).rxDone = s.rxDone := rfl
@[simp] theorem txStop_rxGood (s : State) : (txStop s).rxGood = s.rxGood := rfl
@[simp] theorem txStop_rxBad (s : State) : (txStop s).rxBad = s.rxBad := rfl
@[simp] theorem txStop_response (s : State) : (txStop s).response = s.response := rfl
@[simp] theorem txStop_held (s : State) : (txStop s).held = s.held := rfl
@[simp] theorem txStop_port (s : State) : (txStop s).port = s.port := rfl
@[simp] theorem txStop_schedule (s : State) : (txStop s).schedule = s.schedule := rfl

/-! ### endOfFrame -/

@[simp] theorem endOfFrame_config (s : State) : (endOfFrame s).config = s.config := rfl
@[simp] theorem endOfFrame_pttInverted (s : State) : (endOfFrame s).pttInverted = s.pttInverted := rfl
@[simp] theorem endOfFrame_rxEnabled (s : State) : (endOfFrame s).rxEnabled = s.rxEnabled := rfl
@[simp] theorem endOfFrame_txActive (s : State) : (endOfFrame s).txActive = false := rfl
@[simp] theorem endOfFrame_txBuf (s : State) : (endOfFrame s).txBuf = s.txBuf := rfl
@[simp] theorem endOfFrame_txLen (s : State) : (endOfFrame s).txLen = s.txLen := rfl
@[simp] theorem endOfFrame_txIndex (s : State) : (endOfFrame s).txIndex = s.txIndex := rfl
@[simp] theorem endOfFrame_txBit (s : State) : (endOfFrame s).txBit = s.txBit := rfl
@[simp] theorem endOfFrame_txSample (s : State) : (endOfFrame s).txSample = s.txSample := rfl
@[simp] theorem endOfFrame_txOut (s : State) : (endOfFrame s).txOut = false := rfl
@[simp] theorem endOfFrame_pttOut (s : State) : (endOfFrame s).pttOut = (false ^^ s.pttInverted) := rfl
@[simp] theorem endOfFrame_txMsgCount (s : State) : (endOfFrame s).txMsgCount = s.txMsgCount + 1 := rfl
@[simp] theorem endOfFrame_rxSample (s : State) : (endOfFrame s).rxSample = s.rxSample := rfl
@[simp] theorem endOfFrame_rxLastSample (s : State) : (endOfFrame s).rxLastSample = s.rxLastSample := rfl
@[simp] theorem endOfFrame_rxRamp (s : State) : (endOfFrame s).rxRamp = s.rxRamp := rfl
@[simp] theorem endOfFrame_rxIntegrator (s : State) : (endOfFrame s).rxIntegrator = s.rxIntegrator := rfl
@[simp] theorem endOfFrame_rxBits (s : State) : (endOfFrame s).rxBits = s.rxBits := rfl
@[simp] theorem endOfFrame_rxBitCount (s : State) : (endOfFrame s).rxBitCount = s.rxBitCount := rfl
@[simp] theorem endOfFrame_rxActive (s : State) : (endOfFrame s).rxActive = s.rxActive := rfl
@[simp] theorem endOfFrame_rxBuf (s : State) : (endOfFrame s).rxBuf = s.rxBuf := rfl
@[simp] theorem endOfFrame_rxCount (s : State) : (endOfFrame s).rxCount = s.rxCount := rfl
@[simp] theorem endOfFrame_rxLen (s : State) : (endOfFrame s).rxLen = s.rxLen := rfl
@[simp] theorem endOfFrame_rxDone (s : State) : (endOfFrame s).rxDone = s.rxDone := rfl
@[simp] theorem endOfFrame_rxGood (s : State) : (endOfFrame s).rxGood = s.rxGood := rfl
@[simp] theorem endOfFrame_rxBad (s : State) : (endOfFrame s).rxBad = s.rxBad := rfl
@[simp] theorem endOfFrame_response (s : State) : (endOfFrame s).response = s.response := rfl
@[simp] theorem endOfFrame_held (s : State) : (endOfFrame s).held = s.held := rfl
@[simp] theorem endOfFrame_port (s : State) : (endOfFrame s).port = s.port := rfl
@[simp] theorem endOfFrame_schedule (s : State) : (endOfFrame s).schedule = s.schedule := rfl

/-! ### sendBit -/

@[simp] theorem sendBit_config (s : State) : (sendBit s).config = s.config := rfl
@[simp] theorem sendBit_pttInverted (s : State) : (sendBit s).pttInverted = s.pttInverted := rfl
@[simp] theorem sendBit_rxEnabled (s : State) : (sendBit s).rxEnabled = s.rxEnabled := rfl
@[simp] theorem sendBit_txActive (s : State) : (sendBit s).txActive = s.txActive := rfl
@[simp] theorem sendBit_txBuf (s : State) : (sendBit s).txBuf = s.txBuf := rfl
@[simp] theorem sendBit_txLen (s : State) : (sendBit s).txLen = s.txLen := rfl
@[simp] theorem sendBit_txIndex (s : State) : (sendBit s).txIndex = if s.atLastSymbolBit then s.txIndex + 1 else s.txIndex := rfl
@[simp] theorem sendBit_txBit (s : State) : (sendBit s).txBit = if s.atLastSymbolBit then 0 else s.txBit + 1 := rfl
@[simp] theorem sendBit_txSample (s : State) : (sendBit s).txSample = s.txSample := rfl
@[simp] theorem sendBit_txOut (s : State) : (sendBit s).txOut = s.nextTxBit := rfl
@[simp] theorem sendBit_pttOut (s : State) : (sendBit s).pttOut = s.pttOut := rfl
@[simp] theorem sendBit_txMsgCount (s : State) : (sendBit s).txMsgCount = s.txMsgCount := rfl
@[simp] theorem sendBit_rxSample (s : State) : (sendBit s).rxSample = s.rxSample := rfl
@[simp] theorem sendBit_rxLastSample (s : State) : (sendBit s).rxLastSample = s.rxLastSample := rfl
@[simp] theorem sendBit_rxRamp (s : State) : (sendBit s).rxRamp = s.rxRamp := rfl
@[simp] theorem sendBit_rxIntegrator (s : State) : (sendBit s).rxIntegrator = s.rxIntegrator := rfl
@[simp] theorem sendBit_rxBits (s : State) : (sendBit s).rxBits = s.rxBits := rfl
@[simp] theorem sendBit_rxBitCount (s : State) : (sendBit s).rxBitCount = s.rxBitCount := rfl
@[simp] theorem sendBit_rxActive (s : State) : (sendBit s).rxActive = s.rxActive := rfl
@[simp] theorem sendBit_rxBuf (s : State) : (sendBit s).rxBuf = s.rxBuf := rfl
@[simp] theorem sendBit_rxCount (s : State) : (sendBit s).rxCount = s.rxCount := rfl
@[simp] theorem sendBit_rxLen (s : State) : (sendBit s).rxLen = s.rxLen := rfl
@[simp] theorem sendBit_rxDone (s : State) : (sendBit s).rxDone = s.rxDone := rfl
@[simp] theorem sendBit_rxGood (s : State) : (sendBit s).rxGood = s.rxGood := rfl
@[simp] theorem sendBit_rxBad (s : State) : (sendBit s).rxBad = s.rxBad := rfl
@[simp] theorem sendBit_response (s : State) : (sendBit s).response = s.response := rfl
@[simp] theorem sendBit_held (s : State) : (sendBit s).held = s.held := rfl
@[simp] theorem sendBit_port (s : State) : (sendBit s).port = s.port := rfl
@[simp] theorem sendBit_schedule (s : State) : (sendBit s).schedule = s.schedule := rfl

/-! ### frameBuild -/

@[simp] theorem frameBuild_config (p : List Byte) (s : State) : (frameBuild p s).config = s.config := rfl
@[simp] theorem frameBuild_pttInverted (p : List Byte) (s : State) : (frameBuild p s).pttInverted = s.pttInverted := rfl
@[simp] theorem frameBuild_rxEnabled (p : List Byte) (s : State) : (frameBuild p s).rxEnabled = s.rxEnabled := rfl
@[simp] theorem frameBuild_txActive (p : List Byte) (s : State) : (frameBuild p s).txActive = s.txActive := rfl
@[simp] theorem frameBuild_txBuf (p : List Byte) (s : State) : (frameBuild p s).txBuf = writeTx s.txBuf headerLen (frameSymbols s.config p) := rfl
@[simp] theorem frameBuild_txLen (p : List Byte) (s : State) : (frameBuild p s).txLen = BitVec.ofNat 8 (headerLen + (frameSymbols s.config p).length) := rfl
@[simp] theorem frameBuild_txIndex (p : List Byte) (s : State) : (frameBuild p s).txIndex = s.txIndex := rfl
@[simp] theorem frameBuild_txBit (p : List Byte) (s : State) : (frameBuild p s).txBit = s.txBit := rfl
@[simp] theorem frameBuild_txSample (p : List Byte) (s : State) : (frameBuild p s).txSample = s.txSample := rfl
@[simp] theorem frameBuild_txOut (p : List Byte) (s : State) : (frameBuild p s).txOut = s.txOut := rfl
@[simp] theorem frameBuild_pttOut (p : List Byte) (s : State) : (frameBuild p s).pttOut = s.pttOut := rfl
@[simp] theorem frameBuild_txMsgCount (p : List Byte) (s : State) : (frameBuild p s).txMsgCount = s.txMsgCount := rfl
@[simp] theorem frameBuild_rxSample (p : List Byte) (s : State) : (frameBuild p s).rxSample = s.rxSample := rfl
@[simp] theorem frameBuild_rxLastSample (p : List Byte) (s : State) : (frameBuild p s).rxLastSample = s.rxLastSample := rfl
@[simp] theorem frameBuild_rxRamp (p : List Byte) (s : State) : (frameBuild p s).rxRamp = s.rxRamp := rfl
@[simp] theorem frameBuild_rxIntegrator (p : List Byte) (s : State) : (frameBuild p s).rxIntegrator = s.rxIntegrator := rfl
@[simp] theorem frameBuild_rxBits (p : List Byte) (s : State) : (frameBuild p s).rxBits = s.rxBits := rfl
@[simp] theorem frameBuild_rxBitCount (p : List Byte) (s : State) : (frameBuild p s).rxBitCount = s.rxBitCount := rfl
@[simp] theorem frameBuild_rxActive (p : List Byte) (s : State) : (frameBuild p s).rxActive = s.rxActive := rfl
@[simp] theorem frameBuild_rxBuf (p : List Byte) (s : State) : (frameBuild p s).rxBuf = s.rxBuf := rfl
@[simp] theorem frameBuild_rxCount (p : List Byte) (s : State) : (frameBuild p s).rxCount = s.rxCount := rfl
@[simp] theorem frameBuild_rxLen (p : List Byte) (s : State) : (frameBuild p s).rxLen = s.rxLen := rfl
@[simp] theorem frameBuild_rxDone (p : List Byte) (s : State) : (frameBuild p s).rxDone = s.rxDone := rfl
@[simp] theorem frameBuild_rxGood (p : List Byte) (s : State) : (frameBuild p s).rxGood = s.rxGood := rfl
@[simp] theorem frameBuild_rxBad (p : List Byte) (s : State) : (frameBuild p s).rxBad = s.rxBad := rfl
@[simp] theorem frameBuild_response (p : List Byte) (s : State) : (frameBuild p s).response = s.response := rfl
@[simp] theorem frameBuild_held (p : List Byte) (s : State) : (frameBuild p s).held = s.held := rfl
@[simp] theorem frameBuild_port (p : List Byte) (s : State) : (frameBuild p s).port = s.port := rfl
@[simp] theorem frameBuild_schedule (p : List Byte) (s : State) : (frameBuild p s).schedule = s.schedule := rfl

/-! ### startDetected -/

@[simp] theorem startDetected_config (s : State) : (startDetected s).config = s.config := rfl
@[simp] theorem startDetected_pttInverted (s : State) : (startDetected s).pttInverted = s.pttInverted := rfl
@[simp] theorem startDetected_rxEnabled (s : State) : (startDetected s).rxEnabled = s.rxEnabled := rfl
@[simp] theorem startDetected_txActive (s : State) : (startDetected s).txActive = s.txActive := rfl
@[simp] theorem startDetected_txBuf (s : State) : (startDetected s).txBuf = s.txBuf := rfl
@[simp] theorem startDetected_txLen (s : State) : (startDetected s).txLen = s.txLen := rfl
@[simp] theorem startDetected_txIndex (s : State) : (startDetected s).txIndex = s.txIndex := rfl
@[simp] theorem startDetected_txBit (s : State) : (startDetected s).txBit = s.txBit := rfl
@[simp] theorem startDetected_txSample (s : State) : (startDetected s).txSample = s.txSample := rfl
@[simp] theorem startDetected_txOut (s : State) : (startDetected s).txOut = s.txOut := rfl
@[simp] theorem startDetected_pttOut (s : State) : (startDetected s).pttOut = s.pttOut := rfl
@[simp] theorem startDetected_txMsgCount (s : State) : (startDetected s).txMsgCount = s.txMsgCount := rfl
@[simp] theorem startDetected_rxSample (s : State) : (startDetected s).rxSample = s.rxSample := rfl
@[simp] theorem startDetected_rxLastSample (s : State) : (startDetected s).rxLastSample = s.rxLastSample := rfl
@[simp] theorem startDetected_rxRamp (s : State) : (startDetected s).rxRamp = s.rxRamp := rfl
@[simp] theorem startDetected_rxIntegrator (s : State) : (startDetected s).rxIntegrator = s.rxIntegrator := rfl
@[simp] theorem startDetected_rxBits (s : State) : (startDetected s).rxBits = s.rxBits := rfl
@[simp] theorem startDetected_rxBitCount (s : State) : (startDetected s).rxBitCount = 0 := rfl
@[simp] theorem startDetected_rxActive (s : State) : (startDetected s).rxActive = true := rfl
@[simp] theorem startDetected_rxBuf (s : State) : (startDetected s).rxBuf = s.rxBuf := rfl
@[simp] theorem startDetected_rxCount (s : State) : (startDetected s).rxCount = s.rxCount := rfl
@[simp] theorem startDetected_rxLen (s : State) : (startDetected s).rxLen = 0 := rfl
@[simp] theorem startDetected_rxDone (s : State) : (startDetected s).rxDone = false := rfl
@[simp] theorem startDetected_rxGood (s : State) : (startDetected s).rxGood = s.rxGood := rfl
@[simp] theorem startDetected_rxBad (s : State) : (startDetected s).rxBad = s.rxBad := rfl
@[simp] theorem startDetected_response (s : State) : (startDetected s).response = s.response := rfl
@[simp] theorem startDetected_held (s : State) : (startDetected s).held = s.held := rfl
@[simp] theorem startDetected_port (s : State) : (startDetected s).port = s.port := rfl
@[simp] theorem startDetected_schedule (s : State) : (startDetected s).schedule = s.schedule := rfl

/-! ### strictAbort -/

@[simp] theorem strictAbort_config (s : State) : (strictAbort s).config = s.config := rfl
@[simp] theorem strictAbort_pttInverted (s : State) : (strictAbort s).pttInverted = s.pttInverted := rfl
@[simp] theorem strictAbort_rxEnabled (s : State) : (strictAbort s).rxEnabled = s.rxEnabled := rfl
@[simp] theorem strictAbort_txActive (s : State) : (strictAbort s).txActive = s.txActive := rfl
@[simp] theorem strictAbort_txBuf (s : State) : (strictAbort s).txBuf = s.txBuf := rfl
@[simp] theorem strictAbort_txLen (s : State) : (strictAbort s).txLen = s.txLen := rfl
@[simp] theorem strictAbort_txIndex (s : State) : (strictAbort s).txIndex = s.txIndex := rfl
@[simp] theorem strictAbort_txBit (s : State) : (strictAbort s).txBit = s.txBit := rfl
@[simp] theorem strictAbort_txSample (s : State) : (strictAbort s).txSample = s.txSample := rfl
@[simp] theorem strictAbort_txOut (s : State) : (strictAbort s).txOut = s.txOut := rfl
@[simp] theorem strictAbort_pttOut (s : State) : (strictAbort s).pttOut = s.pttOut := rfl
@[simp] theorem strictAbort_txMsgCount (s : State) : (strictAbort s).txMsgCount = s.txMsgCount := rfl
@[simp] theorem strictAbort_rxSample (s : State) : (strictAbort s).rxSample = s.rxSample := rfl
@[simp] theorem strictAbort_rxLastSample (s : State) : (strictAbort s).rxLastSample = s.rxLastSample := rfl
@[simp] theorem strictAbort_rxRamp (s : State) : (strictAbort s).rxRamp = s.rxRamp := rfl
@[simp] theorem strictAbort_rxIntegrator (s : State) : (strictAbort s).rxIntegrator = s.rxIntegrator := rfl
@[simp] theorem strictAbort_rxBits (s : State) : (strictAbort s).rxBits = s.rxBits := rfl
@[simp] theorem strictAbort_rxBitCount (s : State) : (strictAbort s).rxBitCount = s.rxBitCount := rfl
@[simp] theorem strictAbort_rxActive (s : State) : (strictAbort s).rxActive = false := rfl
@[simp] theorem strictAbort_rxBuf (s : State) : (strictAbort s).rxBuf = s.rxBuf := rfl
@[simp] theorem strictAbort_rxCount (s : State) : (strictAbort s).rxCount = s.rxCount := rfl
@[simp] theorem strictAbort_rxLen (s : State) : (strictAbort s).rxLen = s.rxLen := rfl
@[simp] theorem strictAbort_rxDone (s : State) : (strictAbort s).rxDone = s.rxDone := rfl
@[simp] theorem strictAbort_rxGood (s : State) : (strictAbort s).rxGood = s.rxGood := rfl
@[simp] theorem strictAbort_rxBad (s : State) : (strictAbort s).rxBad = s.rxBad + 1 := rfl
@[simp] theorem strictAbort_response (s : State) : (strictAbort s).response = s.response := rfl
@[simp] theorem strictAbort_held (s : State) : (strictAbort s).held = s.held := rfl
@[simp] theorem strictAbort_port (s : State) : (strictAbort s).port = s.port := rfl
@[simp] theorem strictAbort_schedule (s : State) : (strictAbort s).schedule = s.schedule := rfl

/-! ### countAbort -/

@[simp] theorem countAbort_config (s : State) : (countAbort s).config = s.config := rfl
@[simp] theorem countAbort_pttInverted (s : State) : (countAbort s).pttInverted = s.pttInverted := rfl
@[simp] theorem countAbort_rxEnabled (s : State) : (countAbort s).rxEnabled = s.rxEnabled := rfl
@[simp] theorem countAbort_txActive (s : State) : (countAbort s).txActive = s.txActive := rfl
@[simp] theorem countAbort_txBuf (s : State) : (countAbort s).txBuf = s.txBuf := rfl
@[simp] theorem countAbort_txLen (s : State) : (countAbort s).txLen = s.txLen := rfl
@[simp] theorem countAbort_txIndex (s : State) : (countAbort s).txIndex = s.txIndex := rfl
@[simp] theorem countAbort_txBit (s : State) : (countAbort s).txBit = s.txBit := rfl
@[simp] theorem countAbort_txSample (s : State) : (countAbort s).txSample = s.txSample := rfl
@[simp] theorem countAbort_txOut (s : State) : (countAbort s).txOut = s.txOut := rfl
@[simp] theorem countAbort_pttOut (s : State) : (countAbort s).pttOut = s.pttOut := rfl
@[simp] theorem countAbort_txMsgCount (s : State) : (countAbort s).txMsgCount = s.txMsgCount := rfl
@[simp] theorem countAbort_rxSample (s : State) : (countAbort s).rxSample = s.rxSample := rfl
@[simp] theorem countAbort_rxLastSample (s : State) : (countAbort s).rxLastSample = s.rxLastSample := rfl
@[simp] theorem countAbort_rxRamp (s : State) : (countAbort s).rxRamp = s.rxRamp := rfl
@[simp] theorem countAbort_rxIntegrator (s : State) : (countAbort s).rxIntegrator = s.rxIntegrator := rfl
@[simp] theorem countAbort_rxBits (s : State) : (countAbort s).rxBits = s.rxBits := rfl
@[simp] theorem countAbort_rxBitCount (s : State) : (countAbort s).rxBitCount = s.rxBitCount := rfl
@[simp] theorem countAbort_rxActive (s : State) : (countAbort s).rxActive = false := rfl
@[simp] theorem countAbort_rxBuf (s : State) : (countAbort s).rxBuf = s.rxBuf := rfl
@[simp] theorem countAbort_rxCount (s : State) : (countAbort s).rxCount = s.rxCount := rfl
@[simp] theorem countAbort_rxLen (s : State) : (countAbort s).rxLen = s.rxLen := rfl
@[simp] theorem countAbort_rxDone (s : State) : (countAbort s).rxDone = s.rxDone := rfl
@[simp] theorem countAbort_rxGood (s : State) : (countAbort s).rxGood = s.rxGood := rfl
@[simp] theorem countAbort_rxBad (s : State) : (countAbort s).rxBad = s.rxBad + 1 := rfl
@[simp] theorem countAbort_response (s : State) : (countAbort s).response = s.response := rfl
@[simp] theorem countAbort_held (s : State) : (countAbort s).held = s.held := rfl
@[simp] theorem countAbort_port (s : State) : (countAbort s).port = s.port := rfl
@[simp] theorem countAbort_schedule (s : State) : (countAbort s).schedule = s.schedule := rfl

/-! ### captureCount -/

@[simp] theorem captureCount_config (b : Byte) (s : State) : (captureCount b s).config = s.config := rfl
@[simp] theorem captureCount_pttInverted (b : Byte) (s : State) : (captureCount b s).pttInverted = s.pttInverted := rfl
@[simp] theorem captureCount_rxEnabled (b : Byte) (s : State) : (captureCount b s).rxEnabled = s.rxEnabled := rfl
@[simp] theorem captureCount_txActive (b : Byte) (s : State) : (captureCount b s).txActive = s.txActive := rfl
@[simp] theorem captureCount_txBuf (b : Byte) (s : State) : (captureCount b s).txBuf = s.txBuf := rfl
@[simp] theorem captureCount_txLen (b : Byte) (s : State) : (captureCount b s).txLen = s.txLen := rfl
@[simp] theorem captureCount_txIndex (b : Byte) (s : State) : (captureCount b s).txIndex = s.txIndex := rfl
@[simp] theorem captureCount_txBit (b : Byte) (s : State) : (captureCount b s).txBit = s.txBit := rfl
@[simp] theorem captureCount_txSample (b : Byte) (s : State) : (captureCount b s).txSample = s.txSample := rfl
@[simp] theorem captureCount_txOut (b : Byte) (s : State) : (captureCount b s).txOut = s.txOut := rfl
@[simp] theorem captureCount_pttOut (b : Byte) (s : State) : (captureCount b s).pttOut = s.pttOut := rfl
@[simp] theorem captureCount_txMsgCount (b : Byte) (s : State) : (captureCount b s).txMsgCount = s.txMsgCount := rfl
@[simp] theorem captureCount_rxSample (b : Byte) (s : State) : (captureCount b s).rxSample = s.rxSample := rfl
@[simp] theorem captureCount_rxLastSample (b : Byte) (s : State) : (captureCount b s).rxLastSample = s.rxLastSample := rfl
@[simp] theorem captureCount_rxRamp (b : Byte) (s : State) : (captureCount b s).rxRamp = s.rxRamp := rfl
@[simp] theorem captureCount_rxIntegrator (b : Byte) (s : State) : (captureCount b s).rxIntegrator = s.rxIntegrator := rfl
@[simp] theorem captureCount_rxBits (b : Byte) (s : State) : (captureCount b s).rxBits = s.rxBits := rfl
@[simp] theorem captureCount_rxBitCount (b : Byte) (s : State) : (captureCount b s).rxBitCount = s.rxBitCount := rfl
@[simp] theorem captureCount_rxActive (b : Byte) (s : State) : (captureCount b s).rxActive = s.rxActive := rfl
@[simp] theorem captureCount_rxBuf (b : Byte) (s : State) : (captureCount b s).rxBuf = s.rxBuf := rfl
@[simp] theorem captureCount_rxCount (b : Byte) (s : State) : (captureCount b s).rxCount = if s.rxLen = 0 then b else s.rxCount := rfl
@[simp] theorem captureCount_rxLen (b : Byte) (s : State) : (captureCount b s).rxLen = s.rxLen := rfl
@[simp] theorem captureCount_rxDone (b : Byte) (s : State) : (captureCount b s).rxDone = s.rxDone := rfl
@[simp] theorem captureCount_rxGood (b : Byte) (s : State) : (captureCount b s).rxGood = s.rxGood := rfl
@[simp] theorem captureCount_rxBad (b : Byte) (s : State) : (captureCount b s).rxBad = s.rxBad := rfl
@[simp] theorem captureCount_response (b : Byte) (s : State) : (captureCount b s).response = s.response := rfl
@[simp] theorem captureCount_held (b : Byte) (s : State) : (captureCount b s).held = s.held := rfl
@[simp] theorem captureCount_port (b : Byte) (s : State) : (captureCount b s).port = s.port := rfl
@[simp] theorem captureCount_schedule (b : Byte) (s : State) : (captureCount b s).schedule = s.schedule := rfl

/-! ### storeByte -/

@[simp] theorem storeByte_config (b : Byte) (s : State) : (storeByte b s).config = s.config := rfl
@[simp] theorem storeByte_pttInverted (b : Byte) (s : State) : (storeByte b s).pttInverted = s.pttInverted := rfl
@[simp] theorem storeByte_rxEnabled (b : Byte) (s : State) : (storeByte b s).rxEnabled = s.rxEnabled := rfl
@[simp] theorem storeByte_txActive (b : Byte) (s : State) : (storeByte b s).txActive = s.txActive := rfl
@[simp] theorem storeByte_txBuf (b : Byte) (s : State) : (storeByte b s).txBuf = s.txBuf := rfl
@[simp] theorem storeByte_txLen (b : Byte) (s : State) : (storeByte b s).txLen = s.txLen := rfl
@[simp] theorem storeByte_txIndex (b : Byte) (s : State) : (storeByte b s).txIndex = s.txIndex := rfl
@[simp] theorem storeByte_txBit (b : Byte) (s : State) : (storeByte b s).txBit = s.txBit := rfl
@[simp] theorem storeByte_txSample (b : Byte) (s : State) : (storeByte b s).txSample = s.txSample := rfl
@[simp] theorem storeByte_txOut (b : Byte) (s : State) : (storeByte b s).txOut = s.txOut := rfl
@[simp] theorem storeByte_pttOut (b : Byte) (s : State) : (storeByte b s).pttOut = s.pttOut := rfl
@[simp] theorem storeByte_txMsgCount (b : Byte) (s : State) : (storeByte b s).txMsgCount = s.txMsgCount := rfl
@[simp] theorem storeByte_rxSample (b : Byte) (s : State) : (storeByte b s).rxSample = s.rxSample := rfl
@[simp] theorem storeByte_rxLastSample (b : Byte) (s : State) : (storeByte b s).rxLastSample = s.rxLastSample := rfl
@[simp] theorem storeByte_rxRamp (b : Byte) (s : State) : (storeByte b s).rxRamp = s.rxRamp := rfl
@[simp] theorem storeByte_rxIntegrator (b : Byte) (s : State) : (storeByte b s).rxIntegrator = s.rxIntegrator := rfl
@[simp] theorem storeByte_rxBits (b : Byte) (s : State) : (storeByte b s).rxBits = s.rxBits := rfl
@[simp] theorem storeByte_rxBitCount (b : Byte) (s : State) : (storeByte b s).rxBitCount = s.rxBitCount := rfl
@[simp] theorem storeByte_rxActive (b : Byte) (s : State) : (storeByte b s).rxActive = s.rxActive := rfl
@[simp] theorem storeByte_rxBuf (b : Byte) (s : State) : (storeByte b s).rxBuf = s.rxBuf.write s.rxLen.toNat b := rfl
@[simp] theorem storeByte_rxCount (b : Byte) (s : State) : (storeByte b s).rxCount = s.rxCount := rfl
@[simp] theorem storeByte_rxLen (b : Byte) (s : State) : (storeByte b s).rxLen = s.rxLen + 1 := rfl
@[simp] theorem storeByte_rxDone (b : Byte) (s : State) : (storeByte b s).rxDone = s.rxDone := rfl
@[simp] theorem storeByte_rxGood (b : Byte) (s : State) : (storeByte b s).rxGood = s.rxGood := rfl
@[simp] theorem storeByte_rxBad (b : Byte) (s : State) : (storeByte b s).rxBad = s.rxBad := rfl
@[simp] theorem storeByte_response (b : Byte) (s : State) : (storeByte b s).response = s.response := rfl
@[simp] theorem storeByte_held (b : Byte) (s : State) : (storeByte b s).held = s.held := rfl
@[simp] theorem storeByte_port (b : Byte) (s : State) : (storeByte b s).port = s.port := rfl
@[simp] theorem storeByte_schedule (b : Byte) (s : State) : (storeByte b s).schedule = s.schedule := rfl

/-! ### completeFrame -/

@[simp] theorem completeFrame_config (s : State) : (completeFrame s).config = s.config := rfl
@[simp] theorem completeFrame_pttInverted (s : State) : (completeFrame s).pttInverted = s.pttInverted := rfl
@[simp] theorem completeFrame_rxEnabled (s : State) : (completeFrame s).rxEnabled = s.rxEnabled := rfl
@[simp] theorem completeFrame_txActive (s : State) : (completeFrame s).txActive = s.txActive := rfl
@[simp] theorem completeFrame_txBuf (s : State) : (completeFrame s).txBuf = s.txBuf := rfl
@[simp] theorem completeFrame_txLen (s : State) : (completeFrame s).txLen = s.txLen := rfl
@[simp] theorem completeFrame_txIndex (s : State) : (completeFrame s).txIndex = s.txIndex := rfl
@[simp] theorem completeFrame_txBit (s : State) : (completeFrame s).txBit = s.txBit := rfl
@[simp] theorem completeFrame_txSample (s : State) : (completeFrame s).txSample = s.txSample := rfl
@[simp] theorem completeFrame_txOut (s : State) : (completeFrame s).txOut = s.txOut := rfl
@[simp] theorem completeFrame_pttOut (s : State) : (completeFrame s).pttOut = s.pttOut := rfl
@[simp] theorem completeFrame_txMsgCount (s : State) : (completeFrame s).txMsgCount = s.txMsgCount := rfl
@[simp] theorem completeFrame_rxSample (s : State) : (completeFrame s).rxSample = s.rxSample := rfl
@[simp] theorem completeFrame_rxLastSample (s : State) : (completeFrame s).rxLastSample = s.rxLastSample := rfl
@[simp] theorem completeFrame_rxRamp (s : State) : (completeFrame s).rxRamp = s.rxRamp := rfl
@[simp] theorem completeFrame_rxIntegrator (s : State) : (completeFrame s).rxIntegrator = s.rxIntegrator := rfl
@[simp] theorem completeFrame_rxBits (s : State) : (completeFrame s).rxBits = s.rxBits := rfl
@[simp] theorem completeFrame_rxBitCount (s : State) : (completeFrame s).rxBitCount = s.rxBitCount := rfl
@[simp] theorem completeFrame_rxActive (s : State) : (completeFrame s).rxActive = false := rfl
@[simp] theorem completeFrame_rxBuf (s : State) : (completeFrame s).rxBuf = s.rxBuf := rfl
@[simp] theorem completeFrame_rxCount (s : State) : (completeFrame s).rxCount = s.rxCount := rfl
@[simp] theorem completeFrame_rxLen (s : State) : (completeFrame s).rxLen = s.rxLen := rfl
@[simp] theorem completeFrame_rxDone (s : State) : (completeFrame s).rxDone = true := rfl
@[simp] theorem completeFrame_rxGood (s : State) : (completeFrame s).rxGood = s.rxGood + 1 := rfl
@[simp] theorem completeFrame_rxBad (s : State) : (completeFrame s).rxBad = s.rxBad := rfl
@[simp] theorem completeFrame_response (s : State) : (completeFrame s).response = s.response := rfl
@[simp] theorem completeFrame_held (s : State) : (completeFrame s).held = s.held := rfl
@[simp] theorem completeFrame_port (s : State) : (completeFrame s).port = s.port := rfl
@[simp] theorem completeFrame_schedule (s : State) : (completeFrame s).schedule = s.schedule := rfl

/-! ### integrate -/

@[simp] theorem integrate_config (s : State) : (integrate s).config = s.config := rfl
@[simp] theorem integrate_pttInverted (s : State) : (integrate s).pttInverted = s.pttInverted := rfl
@[simp] theorem integrate_rxEnabled (s : State) : (integrate s).rxEnabled = s.rxEnabled := rfl
@[simp] theorem integrate_txActive (s : State) : (integrate s).txActive = s.txActive := rfl
@[simp] theorem integrate_txBuf (s : State) : (integrate s).txBuf = s.txBuf := rfl
@[simp] theorem integrate_txLen (s : State) : (integrate s).txLen = s.txLen := rfl
@[simp] theorem integrate_txIndex (s : State) : (integrate s).txIndex = s.txIndex := rfl
@[simp] theorem integrate_txBit (s : State) : (integrate s).txBit = s.txBit := rfl
@[simp] theorem integrate_txSample (s : State) : (integrate s).txSample = s.txSample := rfl
@[simp] theorem integrate_txOut (s : State) : (integrate s).txOut = s.txOut := rfl
@[simp] theorem integrate_pttOut (s : State) : (integrate s).pttOut = s.pttOut := rfl
@[simp] theorem integrate_txMsgCount (s : State) : (integrate s).txMsgCount = s.txMsgCount := rfl
@[simp] theorem integrate_rxSample (s : State) : (integrate s).rxSample = s.rxSample := rfl
@[simp] theorem integrate_rxLastSample (s : State) : (integrate s).rxLastSample = s.rxLastSample := rfl
@[simp] theorem integrate_rxRamp (s : State) : (integrate s).rxRamp = s.rxRamp := rfl
@[simp] theorem integrate_rxIntegrator (s : State) : (integrate s).rxIntegrator = if s.rxSample then s.rxIntegrator + 1 else s.rxIntegrator := rfl
@[simp] theorem integrate_rxBits (s : State) : (integrate s).rxBits = s.rxBits := rfl
@[simp] theorem integrate_rxBitCount (s : State) : (integrate s).rxBitCount = s.rxBitCount := rfl
@[simp] theorem integrate_rxActive (s : State) : (integrate s).rxActive = s.rxActive := rfl
@[simp] theorem integrate_rxBuf (s : State) : (integrate s).rxBuf = s.rxBuf := rfl
@[simp] theorem integrate_rxCount (s : State) : (integrate s).rxCount = s.rxCount := rfl
@[simp] theorem integrate_rxLen (s : State) : (integrate s).rxLen = s.rxLen := rfl
@[simp] theorem integrate_rxDone (s : State) : (integrate s).rxDone = s.rxDone := rfl
@[simp] theorem integrate_rxGood (s : State) : (integrate s).rxGood = s.rxGood := rfl
@[simp] theorem integrate_rxBad (s : State) : (integrate s).rxBad = s.rxBad := rfl
@[simp] theorem integrate_response (s : State) : (integrate s).response = s.response := rfl
@[simp] theorem integrate_held (s : State) : (integrate s).held = s.held := rfl
@[simp] theorem integrate_port (s : State) : (integrate s).port = s.port := rfl
@[simp] theorem integrate_schedule (s : State) : (integrate s).schedule = s.schedule := rfl

/-! ### advanceRamp -/

@[simp] theorem advanceRamp_config (s : State) : (advanceRamp s).config = s.config := rfl
@[simp] theorem advanceRamp_pttInverted (s : State) : (advanceRamp s).pttInverted = s.pttInverted := rfl
@[simp] theorem advanceRamp_rxEnabled (s : State) : (advanceRamp s).rxEnabled = s.rxEnabled := rfl
@[simp] theorem advanceRamp_txActive (s : State) : (advanceRamp s).txActive = s.txActive := rfl
@[simp] theorem advanceRamp_txBuf (s : State) : (advanceRamp s).txBuf = s.txBuf := rfl
@[simp] theorem advanceRamp_txLen (s : State) : (advanceRamp s).txLen = s.txLen := rfl
@[simp] theorem advanceRamp_txIndex (s : State) : (advanceRamp s).txIndex = s.txIndex := rfl
@[simp] theorem advanceRamp_txBit (s : State) : (advanceRamp s).txBit = s.txBit := rfl
@[simp] theorem advanceRamp_txSample (s : State) : (advanceRamp s).txSample = s.txSample := rfl
@[simp] theorem advanceRamp_txOut (s : State) : (advanceRamp s).txOut = s.txOut := rfl
@[simp] theorem advanceRamp_pttOut (s : State) : (advanceRamp s).pttOut = s.pttOut := rfl
@[simp] theorem advanceRamp_txMsgCount (s : State) : (advanceRamp s).txMsgCount = s.txMsgCount := rfl
@[simp] theorem advanceRamp_rxSample (s : State) : (advanceRamp s).rxSample = s.rxSample := rfl
@[simp] theorem advanceRamp_rxLastSample (s : State) : (advanceRamp s).rxLastSample = if s.isEdge then s.rxSample else s.rxLastSample := rfl
@[simp] theorem advanceRamp_rxRamp (s : State) : (advanceRamp s).rxRamp = s.rxRamp + s.rampGain := rfl
@[simp] theorem advanceRamp_rxIntegrator (s : State) : (advanceRamp s).rxIntegrator = s.rxIntegrator := rfl
@[simp] theorem advanceRamp_rxBits (s : State) : (advanceRamp s).rxBits = s.rxBits := rfl
@[simp] theorem advanceRamp_rxBitCount (s : State) : (advanceRamp s).rxBitCount = s.rxBitCount := rfl
@[simp] theorem advanceRamp_rxActive (s : State) : (advanceRamp s).rxActive = s.rxActive := rfl
@[simp] theorem advanceRamp_rxBuf (s : State) : (advanceRamp s).rxBuf = s.rxBuf := rfl
@[simp] theorem advanceRamp_rxCount (s : State) : (advanceRamp s).rxCount = s.rxCount := rfl
@[simp] theorem advanceRamp_rxLen (s : State) : (advanceRamp s).rxLen = s.rxLen := rfl
@[simp] theorem advanceRamp_rxDone (s : State) : (advanceRamp s).rxDone = s.rxDone := rfl
@[simp] theorem advanceRamp_rxGood (s : State) : (advanceRamp s).rxGood = s.rxGood := rfl
@[simp] theorem advanceRamp_rxBad (s : State) : (advanceRamp s).rxBad = s.rxBad := rfl
@[simp] theorem advanceRamp_response (s : State) : (advanceRamp s).response = s.response := rfl
@[simp] theorem advanceRamp_held (s : State) : (advanceRamp s).held = s.held := rfl
@[simp] theorem advanceRamp_port (s : State) : (advanceRamp s).port = s.port := rfl
@[simp] theorem advanceRamp_schedule (s : State) : (advanceRamp s).schedule = s.schedule := rfl

/-! ### wrapRamp -/

@[simp] theorem wrapRamp_config (s : State) : (wrapRamp s).config = s.config := rfl
@[simp] theorem wrapRamp_pttInverted (s : State) : (wrapRamp s).pttInverted = s.pttInverted := rfl
@[simp] theorem wrapRamp_rxEnabled (s : State) : (wrapRamp s).rxEnabled = s.rxEnabled := rfl
@[simp] theorem wrapRamp_txActive (s : State) : (wrapRamp s).txActive = s.txActive := rfl
@[simp] theorem wrapRamp_txBuf (s : State) : (wrapRamp s).txBuf = s.txBuf := rfl
@[simp] theorem wrapRamp_txLen (s : State) : (wrapRamp s).txLen = s.txLen := rfl
@[simp] theorem wrapRamp_txIndex (s : State) : (wrapRamp s).txIndex = s.txIndex := rfl
@[simp] theorem wrapRamp_txBit (s : State) : (wrapRamp s).txBit = s.txBit := rfl
@[simp] theorem wrapRamp_txSample (s : State) : (wrapRamp s).txSample = s.txSample := rfl
@[simp] theorem wrapRamp_txOut (s : State) : (wrapRamp s).txOut = s.txOut := rfl
@[simp] theorem wrapRamp_pttOut (s : State) : (wrapRamp s).pttOut = s.pttOut := rfl
@[simp] theorem wrapRamp_txMsgCount (s : State) : (wrapRamp s).txMsgCount = s.txMsgCount := rfl
@[simp] theorem wrapRamp_rxSample (s : State) : (wrapRamp s).rxSample = s.rxSample := rfl
@[simp] theorem wrapRamp_rxLastSample (s : State) : (wrapRamp s).rxLastSample = s.rxLastSample := rfl
@[simp] theorem wrapRamp_rxRamp (s : State) : (wrapRamp s).rxRamp = s.rxRamp - rampLen := rfl
@[simp] theorem wrapRamp_rxIntegrator (s : State) : (wrapRamp s).rxIntegrator = 0 := rfl
@[simp] theorem wrapRamp_rxBits (s : State) : (wrapRamp s).rxBits = shiftIn s.recoveredBit s.rxBits := rfl
@[simp] theorem wrapRamp_rxBitCount (s : State) : (wrapRamp s).rxBitCount = s.rxBitCount := rfl
@[simp] theorem wrapRamp_rxActive (s : State) : (wrapRamp s).rxActive = s.rxActive := rfl
@[simp] theorem wrapRamp_rxBuf (s : State) : (wrapRamp s).rxBuf = s.rxBuf := rfl
@[simp] theorem wrapRamp_rxCount (s : State) : (wrapRamp s).rxCount = s.rxCount := rfl
@[simp] theorem wrapRamp_rxLen (s : State) : (wrapRamp s).rxLen = s.rxLen := rfl
@[simp] theorem wrapRamp_rxDone (s : State) : (wrapRamp s).rxDone = s.rxDone := rfl
@[simp] theorem wrapRamp_rxGood (s : State) : (wrapRamp s).rxGood = s.rxGood := rfl
@[simp] theorem wrapRamp_rxBad (s : State) : (wrapRamp s).rxBad = s.rxBad := rfl
@[simp] theorem wrapRamp_response (s : State) : (wrapRamp s).response = s.response := rfl
@[simp] theorem wrapRamp_held (s : State) : (wrapRamp s).held = s.held := rfl
@[simp] theorem wrapRamp_port (s : State) : (wrapRamp s).port = s.port := rfl
@[simp] theorem wrapRamp_schedule (s : State) : (wrapRamp s).schedule = s.schedule := rfl

/-! ### resetBlock -/

@[simp] theorem resetBlock_config (s : State) : (resetBlock s).config = s.config := rfl
@[simp] theorem resetBlock_pttInverted (s : State) : (resetBlock s).pttInverted = State.reset.pttInverted := rfl
@[simp] theorem resetBlock_rxEnabled (s : State) : (resetBlock s).rxEnabled = State.reset.rxEnabled := rfl
@[simp] theorem resetBlock_txActive (s : State) : (resetBlock s).txActive = State.reset.txActive := rfl
@[simp] theorem resetBlock_txBuf (s : State) : (resetBlock s).txBuf = State.reset.txBuf := rfl
@[simp] theorem resetBlock_txLen (s : State) : (resetBlock s).txLen = State.reset.txLen := rfl
@[simp] theorem resetBlock_txIndex (s : State) : (resetBlock s).txIndex = State.reset.txIndex := rfl
@[simp] theorem resetBlock_txBit (s : State) : (resetBlock s).txBit = State.reset.txBit := rfl
@[simp] theorem resetBlock_txSample (s : State) : (resetBlock s).txSample = State.reset.txSample := rfl
@[simp] theorem resetBlock_txOut (s : State) : (resetBlock s).txOut = State.reset.txOut := rfl
@[simp] theorem resetBlock_pttOut (s : State) : (resetBlock s).pttOut = State.reset.pttOut := rfl
@[simp] theorem resetBlock_txMsgCount (s : State) : (resetBlock s).txMsgCount = State.reset.txMsgCount := rfl
@[simp] theorem resetBlock_rxSample (s : State) : (resetBlock s).rxSample = State.reset.rxSample := rfl
@[simp] theorem resetBlock_rxLastSample (s : State) : (resetBlock s).rxLastSample = State.reset.rxLastSample := rfl
@[simp] theorem resetBlock_rxRamp (s : State) : (resetBlock s).rxRamp = State.reset.rxRamp := rfl
@[simp] theorem resetBlock_rxIntegrator (s : State) : (resetBlock s).rxIntegrator = State.reset.rxIntegrator := rfl
@[simp] theorem resetBlock_rxBits (s : State) : (resetBlock s).rxBits = State.reset.rxBits := rfl
@[simp] theorem resetBlock_rxBitCount (s : State) : (resetBlock s).rxBitCount = State.reset.rxBitCount := rfl
@[simp] theorem resetBlock_rxActive (s : State) : (resetBlock s).rxActive = State.reset.rxActive := rfl
@[simp] theorem resetBlock_rxBuf (s : State) : (resetBlock s).rxBuf = State.reset.rxBuf := rfl
@[simp] theorem resetBlock_rxCount (s : State) : (resetBlock s).rxCount = State.reset.rxCount := rfl
@[simp] theorem resetBlock_rxLen (s : State) : (resetBlock s).rxLen = State.reset.rxLen := rfl
@[simp] theorem resetBlock_rxDone (s : State) : (resetBlock s).rxDone = State.reset.rxDone := rfl
@[simp] theorem resetBlock_rxGood (s : State) : (resetBlock s).rxGood = State.reset.rxGood := rfl
@[simp] theorem resetBlock_rxBad (s : State) : (resetBlock s).rxBad = State.reset.rxBad := rfl
@[simp] theorem resetBlock_response (s : State) : (resetBlock s).response = s.response := rfl
@[simp] theorem resetBlock_held (s : State) : (resetBlock s).held = s.held := rfl
@[simp] theorem resetBlock_port (s : State) : (resetBlock s).port = s.port := rfl
@[simp] theorem resetBlock_schedule (s : State) : (resetBlock s).schedule = s.schedule := rfl

end Sys2Proof.Machine
end

