-- ==== Sys2Proof/Laws/Frame.lean ====
section
/-! SUPPORT. The frame encoder: how long a frame is and which bytes of `TxBuf` it writes. -/

namespace Sys2Proof.Machine

theorem writeTx_headerLen (m : Memory) (vs : List Byte) : writeTx m headerLen vs = m.writeFrom headerLen vs := by
  simp [writeTx]

@[simp] theorem symbolPair_length (c : Config) (b : Byte) : (symbolPair c b).length = 2 := rfl

@[simp] theorem frameBytes_length (p : List Byte) : (frameBytes p).length = p.length + 3 := by
  simp [frameBytes]

@[simp] theorem flatMap_symbolPair_length (c : Config) (l : List Byte) :
    (l.flatMap (symbolPair c)).length = 2 * l.length := by
  induction l with
  | nil => rfl
  | cons b l ih => simp [ih]; omega

@[simp] theorem frameSymbols_length (c : Config) (p : List Byte) :
    (frameSymbols c p).length = 2 * (p.length + 3) := by
  rw [frameSymbols, flatMap_symbolPair_length, frameBytes_length]

theorem byteOfSymbol_lt (s : Symbol) : (byteOfSymbol s).toNat < 64 := by
  have := s.isLt
  simp only [byteOfSymbol, BitVec.toNat_setWidth]
  omega

theorem frameSymbols_lt {c : Config} {p : List Byte} {v : Byte} (h : v ∈ frameSymbols c p) : v.toNat < 64 := by
  obtain ⟨b, _, hv⟩ := List.mem_flatMap.mp h
  rcases List.mem_cons.mp hv with rfl | hv
  · exact byteOfSymbol_lt _
  · rw [List.mem_singleton.mp hv]
    exact byteOfSymbol_lt _

/-- `tx_len = 8 + 2·count` (42_frame_codec.md R133) where the payload fits. -/
theorem frameBuild_txLen_toNat {p : List Byte} (h : p.length ≤ 27) (s : State) :
    (frameBuild p s).txLen.toNat = 8 + 2 * (p.length + 3) := by
  simp only [frameBuild_txLen, frameSymbols_length, headerLen, BitVec.toNat_ofNat]
  omega

theorem frameBuild_txBuf_wf {s : State} (h : s.txBuf.wf) (p : List Byte) : (frameBuild p s).txBuf.wf := by
  rw [frameBuild_txBuf, writeTx_headerLen]
  exact Memory.wf_writeFrom h _ _

theorem storeByte_rxBuf_wf {s : State} (h : s.rxBuf.wf) (b : Byte) : (storeByte b s).rxBuf.wf :=
  Memory.wf_write h _ _

/-- The write operation of `TxBuf` keeps the canonical form. -/
theorem writeTx_wf {m : Memory} (h : m.wf) (a : Nat) (vs : List Byte) : (writeTx m a vs).wf :=
  Memory.wf_writeFrom h _ _

/-- `TxBuf` after FRAME_BUILD: the symbols from byte 8 on, every other byte as before. -/
theorem frameBuild_txByte {s : State} (h : s.txBuf.wf) (p : List Byte) (a : Nat) :
    (frameBuild p s).txByte a =
      if 8 ≤ a ∧ a < 8 + 2 * (p.length + 3) then (frameSymbols s.config p).getD (a - 8) 0 else s.txByte a := by
  unfold State.txByte
  rw [frameBuild_txBuf, writeTx_headerLen, Memory.read_writeFrom h, frameSymbols_length]
  by_cases ha : a < headerLen
  · rw [if_pos ha, if_pos ha, if_neg (by unfold headerLen at ha; omega)]
  · rw [if_neg ha, if_neg ha]

/-- `RxBuf` after a store: the byte at `rx_len`, every other byte as before. -/
theorem storeByte_rxByte {s : State} (h : s.rxBuf.wf) (b : Byte) (a : Nat) :
    (storeByte b s).rxByte a = if a = s.rxLen.toNat then b else s.rxByte a :=
  Memory.read_write h _ _ _

end Sys2Proof.Machine
end

