-- ==== Sys2Proof/Laws/Commands.lean ====
section
/-! SUPPORT. What a command can do, said once for each that has more than one outcome. -/

namespace Sys2Proof.Machine

/-- What SEND can do (46_host_commands.md R211, R212). -/
theorem execSend_cases {d : List Byte} {s t : State} (h : execSend d s = .next t) :
    (27 < d.length ∧ t = respond .payloadTooLong [] s) ∨
    (d.length ≤ 27 ∧ s.txActive = true ∧ t = hold d s) ∨
    (d.length ≤ 27 ∧ s.txActive = false ∧ t = respond .ok [] (txStart (frameBuild d s))) := by
  unfold execSend at h
  split at h
  · rename_i hd
    injection h with h
    exact .inl ⟨hd, h.symm⟩
  · rename_i hd
    split at h
    · rename_i ha
      injection h with h
      exact .inr (.inl ⟨Nat.le_of_not_lt hd, ha, h.symm⟩)
    · rename_i ha
      injection h with h
      exact .inr (.inr ⟨Nat.le_of_not_lt hd, by simpa using ha, h.symm⟩)

/-- What GET_MESSAGE can do (46_host_commands.md R219). -/
theorem execGetMessage_cases {m : Byte} {s t : State} (h : execGetMessage m s = .next t) :
    (s.rxDone = false ∧ t = respond .notReady [] s) ∨
    (s.rxDone = true ∧ 3 ≤ s.rxLen.toNat ∧ s.rxLen.toNat ≤ 30 ∧
      t = respond .ok (BitVec.ofNat 8 (s.messageData m).length :: byteOfBool s.crcOk :: s.messageData m)
        { s with rxDone := false }) := by
  unfold execGetMessage at h
  split at h
  · rename_i hd
    split at h
    · simp at h
    · split at h
      · simp at h
      · rename_i h3 h30
        injection h with h
        exact .inr ⟨hd, by omega, by unfold maxMessageLen at h30; omega, h.symm⟩
  · rename_i hd
    injection h with h
    exact .inl ⟨by simpa using hd, h.symm⟩

/-- READ_STATUS changes nothing but the response (46_host_commands.md R222). -/
theorem execReadStatus_frame (sel : Byte) (s : State) :
    ∃ c d, execReadStatus sel s = .next (respond c d s) := by
  unfold execReadStatus
  split
  · exact ⟨_, _, rfl⟩
  · exact ⟨_, _, rfl⟩
  · exact ⟨_, _, rfl⟩
  · exact ⟨_, _, rfl⟩
  · exact ⟨_, _, rfl⟩

end Sys2Proof.Machine
end

