-- ==== Sys2Proof/Laws/PerInstr.lean ====
section
/-! SUPPORT. Statements about every instruction, one lemma for each. -/

namespace Sys2Proof.Laws.Layout

/-- The opcode of an instruction's row of the opcode map (30_encoding.md R81). -/
def opcode : Instr → Byte
  | .send _ => 0x01
  | .txStart _ => 0x02
  | .txStop _ => 0x03
  | .rxStart _ => 0x04
  | .rxStop _ => 0x05
  | .haveMessage _ => 0x06
  | .getMessage _ => 0x07
  | .setPttInverted _ _ => 0x08
  | .readStatus _ => 0x09

/-- A well-formed instruction's first byte is its row's opcode, and its length is the one a decoder tells from its word
(30_encoding.md R81, R86). -/
def Statement (i : Instr) : Prop :=
  i.wellFormed = true → (encode i).head? = some (opcode i) ∧ commandLength (encode i) = (encode i).length

theorem send (data : List Byte) : Statement (.send data) := by
  intro h
  have h : data.length < 256 := by simpa [Instr.wellFormed] using h
  refine ⟨rfl, ?_⟩
  simp only [encode, commandLength, if_true, List.length_cons, BitVec.toNat_ofNat]
  omega

theorem txStart (imm8 : Byte) : Statement (.txStart imm8) := fun _ => ⟨rfl, rfl⟩
theorem txStop (imm8 : Byte) : Statement (.txStop imm8) := fun _ => ⟨rfl, rfl⟩
theorem rxStart (imm8 : Byte) : Statement (.rxStart imm8) := fun _ => ⟨rfl, rfl⟩
theorem rxStop (imm8 : Byte) : Statement (.rxStop imm8) := fun _ => ⟨rfl, rfl⟩
theorem haveMessage (imm8 : Byte) : Statement (.haveMessage imm8) := fun _ => ⟨rfl, rfl⟩
theorem getMessage (maxLen : Byte) : Statement (.getMessage maxLen) := fun _ => ⟨rfl, rfl⟩
theorem setPttInverted (ignored : BitVec 7) (inv : BitVec 1) : Statement (.setPttInverted ignored inv) :=
  fun _ => ⟨rfl, rfl⟩
theorem readStatus (sel : Byte) : Statement (.readStatus sel) := fun _ => ⟨rfl, rfl⟩

end Sys2Proof.Laws.Layout
end

