-- ==== Sys2Proof/Laws/Receive.lean ====
section
/-! SUPPORT. What one recovered bit and one tick of the receive path can do, said once. -/

namespace Sys2Proof.Machine

/-- What the acceptance of a byte can do (45_rx_state_machine.md R195 to R197). -/
theorem acceptByte_cases {b : Byte} {s t : State} (h : acceptByte b s = .next t) :
    s.rxLen.toNat < 30 ∧
      ((s.rxLen + 1 = (if s.rxLen = 0 then b else s.rxCount) ∧ t = completeFrame (storeByte b (captureCount b s))) ∨
       (s.rxLen + 1 ≠ (if s.rxLen = 0 then b else s.rxCount) ∧ t = storeByte b (captureCount b s))) := by
  unfold acceptByte at h
  split at h
  · rename_i hlen
    refine ⟨hlen, ?_⟩
    injection h with h
    by_cases hc : (storeByte b (captureCount b s)).rxLen = (storeByte b (captureCount b s)).rxCount
    · rw [if_pos hc] at h
      exact .inl ⟨by simpa using hc, h.symm⟩
    · rw [if_neg hc] at h
      exact .inr ⟨by simpa using hc, h.symm⟩
  · simp at h

/-- What the twelfth bit of a byte can do (45_rx_state_machine.md R193). -/
theorem takeByte_cases {s t : State} (h : takeByte s = .next t) :
    (s.config.strictSymbolCheck = true ∧ s.windowValid = false ∧ t = strictAbort s) ∨
    (s.rxLen = 0 ∧ badCount s.windowByte = true ∧ t = countAbort s) ∨
    ((s.rxLen = 0 → badCount s.windowByte = false) ∧ acceptByte s.windowByte s = .next t) := by
  unfold takeByte at h
  split at h
  · rename_i hs
    simp only [Bool.and_eq_true, Bool.not_eq_true'] at hs
    injection h with h
    exact .inl ⟨hs.1, hs.2, h.symm⟩
  · split at h
    · rename_i _ hc
      simp only [Bool.and_eq_true, decide_eq_true_eq] at hc
      injection h with h
      exact .inr (.inl ⟨hc.1, hc.2, h.symm⟩)
    · rename_i _ hc
      refine .inr (.inr ⟨fun h0 => ?_, h⟩)
      simpa [h0] using hc

/-- What a recovered bit can do (45_rx_state_machine.md R190 to R193). -/
theorem rxBit_cases {s t : State} (h : rxBit s = .next t) :
    (s.rxActive = false ∧ s.rxBits = startPattern ∧ t = startDetected s) ∨
    (s.rxActive = false ∧ s.rxBits ≠ startPattern ∧ t = s) ∨
    (s.rxActive = true ∧ s.rxBitCount + 1 ≠ 12 ∧ t = { s with rxBitCount := s.rxBitCount + 1 }) ∨
    (s.rxActive = true ∧ s.rxBitCount + 1 = 12 ∧ takeByte { s with rxBitCount := 0 } = .next t) := by
  unfold rxBit at h
  split at h
  · rename_i ha
    unfold assemble at h
    split at h
    · rename_i hc
      exact .inr (.inr (.inr ⟨ha, hc, h⟩))
    · rename_i hc
      injection h with h
      exact .inr (.inr (.inl ⟨ha, hc, h.symm⟩))
  · rename_i ha
    injection h with h
    unfold search at h
    split at h
    · rename_i hb
      exact .inl ⟨by simpa using ha, hb, h.symm⟩
    · rename_i hb
      exact .inr (.inl ⟨by simpa using ha, hb, h.symm⟩)

/-- What a recovered bit can write: the registers 45_rx_state_machine.md names, and no other. -/
theorem rxBit_frame {s t : State} (h : rxBit s = .next t) :
    t = { s with
      rxBitCount := t.rxBitCount, rxActive := t.rxActive, rxBuf := t.rxBuf, rxCount := t.rxCount, rxLen := t.rxLen
      rxDone := t.rxDone, rxGood := t.rxGood, rxBad := t.rxBad } := by
  rcases rxBit_cases h with ⟨_, _, rfl⟩ | ⟨_, _, rfl⟩ | ⟨_, _, rfl⟩ | ⟨_, _, h⟩
  · rfl
  · rfl
  · rfl
  · rcases takeByte_cases h with ⟨_, _, rfl⟩ | ⟨_, _, rfl⟩ | ⟨_, h⟩
    · rfl
    · rfl
    · rcases acceptByte_cases h with ⟨_, ⟨_, rfl⟩ | ⟨_, rfl⟩⟩ <;> rfl

/-- What a PLL step can do (44_pll.md R175). -/
theorem pllStep_cases {s t : State} (h : pllStep s = .next t) :
    (rampLen ≤ s.rxRamp + s.rampGain ∧ rxBit (wrapRamp (advanceRamp (integrate s))) = .next t) ∨
    (¬ rampLen ≤ s.rxRamp + s.rampGain ∧ t = advanceRamp (integrate s)) := by
  unfold pllStep at h
  by_cases hw : rampLen ≤ (advanceRamp (integrate s)).rxRamp
  · exact .inl ⟨hw, by simpa only [if_pos hw] using h⟩
  · refine .inr ⟨hw, ?_⟩
    simp only [if_neg hw] at h
    injection h with h
    exact h.symm

end Sys2Proof.Machine
end

