-- ==== Sys2Proof/Laws/Tick.lean ====
section
/-! SUPPORT. What one tick can do, said once. -/

namespace Sys2Proof.Machine

/-- What a transmit tick can do (43_tx_state_machine.md R153 to R155). -/
theorem txStep_cases {s t : State} (h : txStep s = .next t) :
    (s.txSample ≠ 0 ∧ t = { s with txSample := s.txSample + 1 }) ∨
    (s.txSample = 0 ∧ s.txLen ≤ s.txIndex ∧ t = endOfFrame { s with txSample := 1 }) ∨
    (s.txSample = 0 ∧ ¬ s.txLen ≤ s.txIndex ∧ s.txIndex.toNat < 68 ∧ t = sendBit { s with txSample := 1 }) := by
  unfold txStep at h
  by_cases hs : s.txSample = 0
  · simp only [if_pos hs, txAdvance] at h
    by_cases hl : s.txLen ≤ s.txIndex
    · simp only [if_pos hl] at h
      injection h with h
      exact .inr (.inl ⟨hs, hl, by rw [← h, hs]; rfl⟩)
    · simp only [if_neg hl, emitBit] at h
      split at h
      · rename_i hi
        injection h with h
        exact .inr (.inr ⟨hs, hl, hi, by rw [← h, hs]; rfl⟩)
      · simp at h
  · simp only [if_neg hs] at h
    injection h with h
    exact .inl ⟨hs, h.symm⟩

/-- What a tick can do (47_tick.md R240). -/
theorem tick_cases {x : Bool} {s t : State} (h : tick x s = .next t) :
    (s.rxEnabled = true ∧ s.txActive = false ∧ pllStep { s with rxSample := x } = .next t) ∨
    (s.txActive = true ∧ txStep s = .next t) ∨
    (s.rxEnabled = false ∧ s.txActive = false ∧ t = s) := by
  unfold tick State.rxRuns at h
  cases he : s.rxEnabled <;> cases ha : s.txActive <;> simp only [he, ha] at h
  · injection h with h
    exact .inr (.inr ⟨rfl, rfl, h.symm⟩)
  · exact .inr (.inl ⟨rfl, h⟩)
  · exact .inl ⟨rfl, rfl, h⟩
  · exact .inr (.inl ⟨rfl, h⟩)

/-- What a transmit tick can write. -/
theorem txStep_frame {s t : State} (h : txStep s = .next t) :
    t = { s with
      txActive := t.txActive, txIndex := t.txIndex, txBit := t.txBit, txSample := t.txSample, txOut := t.txOut
      pttOut := t.pttOut, txMsgCount := t.txMsgCount } := by
  rcases txStep_cases h with ⟨_, rfl⟩ | ⟨_, _, rfl⟩ | ⟨_, _, _, rfl⟩ <;> rfl

/-- What a tick of the receive path can write. -/
theorem pllStep_frame {s t : State} (h : pllStep s = .next t) :
    t = { s with
      rxLastSample := t.rxLastSample, rxRamp := t.rxRamp, rxIntegrator := t.rxIntegrator, rxBits := t.rxBits
      rxBitCount := t.rxBitCount, rxActive := t.rxActive, rxBuf := t.rxBuf, rxCount := t.rxCount, rxLen := t.rxLen
      rxDone := t.rxDone, rxGood := t.rxGood, rxBad := t.rxBad } := by
  rcases pllStep_cases h with ⟨_, h⟩ | ⟨_, rfl⟩
  · have := rxBit_frame h
    rw [this]
    rfl
  · rfl

/-- What a tick can write: the parameters, `ptt_inverted`, `rx_enabled`, `TxBuf`, `tx_len` and the interface stay. -/
theorem tick_frame {x : Bool} {s t : State} (h : tick x s = .next t) :
    t = { t with
      config := s.config, pttInverted := s.pttInverted, rxEnabled := s.rxEnabled, txBuf := s.txBuf, txLen := s.txLen
      response := s.response, held := s.held, port := s.port, schedule := s.schedule } := by
  rcases tick_cases h with ⟨_, _, h⟩ | ⟨_, h⟩ | ⟨_, _, rfl⟩
  · have := pllStep_frame h
    rw [this]
  · have := txStep_frame h
    rw [this]
  · rfl

end Sys2Proof.Machine
end

