-- ==== Sys2Proof/Laws/Step.lean ====
section
/-! SUPPORT. What one step can do, said once. -/

namespace Sys2Proof.Machine

/-- What a turn of the host agent can do. -/
theorem hostTurn_cases {s t : State} (h : hostTurn s = .next t) :
    (∃ i rest, decode s.port = .ok (i, rest) ∧ exec i { s with port := rest } = .next t) ∨
    (∃ op imm8, decode s.port = .error (.reservedOpcode op imm8) ∧
      t = respond .illegalCommand [] { s with port := s.port.drop 2 }) ∨
    (decode s.port = .error .incomplete ∧ t = s) := by
  unfold hostTurn at h
  split at h
  · rename_i i rest hd
    exact .inl ⟨i, rest, hd, h⟩
  · rename_i op imm8 hd
    injection h with h
    exact .inr (.inl ⟨op, imm8, hd, h.symm⟩)
  · rename_i hd
    injection h with h
    exact .inr (.inr ⟨hd, h.symm⟩)

/-- What a step can do: a held SEND whose turn has come, a tick, a command, a reset, or nothing. -/
theorem step_cases {s t : State} (h : step s = .next t) :
    (∃ d, s.held = some d ∧ s.txActive = false ∧ exec (.send d) { s with held := none } = .next t) ∨
    ((s.held = none ∨ s.txActive = true) ∧
      ((s.schedule = [] ∧ t = s) ∨
       (∃ x q, s.schedule = .tick x :: q ∧ tick x { s with schedule := q } = .next t) ∨
       (∃ q, s.schedule = .reset :: q ∧ t = resetBlock { s with schedule := q }) ∨
       (∃ q d, s.schedule = .host :: q ∧ s.held = some d ∧ t = { s with schedule := q }) ∨
       (∃ q, s.schedule = .host :: q ∧ s.held = none ∧ hostTurn { s with schedule := q } = .next t))) := by
  have scheduled : scheduledStep s = .next t →
      ((s.schedule = [] ∧ t = s) ∨
       (∃ x q, s.schedule = .tick x :: q ∧ tick x { s with schedule := q } = .next t) ∨
       (∃ q, s.schedule = .reset :: q ∧ t = resetBlock { s with schedule := q }) ∨
       (∃ q d, s.schedule = .host :: q ∧ s.held = some d ∧ t = { s with schedule := q }) ∨
       (∃ q, s.schedule = .host :: q ∧ s.held = none ∧ hostTurn { s with schedule := q } = .next t)) := by
    intro hs
    unfold scheduledStep at hs
    split at hs
    · rename_i turn q hq
      cases turn with
      | tick x => exact .inr (.inl ⟨x, q, hq, hs⟩)
      | host =>
        simp only [takeTurn] at hs
        cases hh : s.held with
        | none =>
          simp only [hh, Option.isSome_none, Bool.false_eq_true, if_false] at hs
          exact .inr (.inr (.inr (.inr ⟨q, hq, rfl, hs⟩)))
        | some d =>
          simp only [hh, Option.isSome_some, if_true] at hs
          injection hs with hs
          exact .inr (.inr (.inr (.inl ⟨q, d, hq, rfl, hs.symm⟩)))
      | reset =>
        injection hs with hs
        exact .inr (.inr (.inl ⟨q, hq, hs.symm⟩))
    · rename_i hq
      injection hs with hs
      exact .inl ⟨hq, hs.symm⟩
  unfold step nextStep at h
  split at h
  · rename_i d hd
    split at h
    · rename_i ha
      exact .inr ⟨.inr ha, scheduled h⟩
    · rename_i ha
      exact .inl ⟨d, hd, by simpa using ha, h⟩
  · rename_i hd
    exact .inr ⟨.inl hd, scheduled h⟩

end Sys2Proof.Machine
end

