-- ==== Sys2Proof/Tests/Slice0.lean ====
section
/-! SUPPORT. Tests of one step each, with expected results from spec/95_test_vectors.md and the rules' own examples, and a witness
for the hypotheses of each statement. -/

namespace Sys2Proof.Tests

open Sys2Proof.Machine

/-- The next state of an outcome. -/
def nextOf : Result → Option State
  | .next s => some s
  | .fault _ => none
  | .refused _ => none

/-- The fault of an outcome. -/
def faultOf : Result → Option Fault
  | .next _ => none
  | .fault f => some f
  | .refused _ => none

/-! ### Well-formedness: the check refuses the ill-formed term and takes the longest legal one -/

set_option maxRecDepth 8000 in
theorem test_wellFormed_refuses_256_bytes : (Instr.send (List.replicate 256 0)).wellFormed = false := by decide
set_option maxRecDepth 8000 in
theorem test_wellFormed_takes_255_bytes : (Instr.send (List.replicate 255 0)).wellFormed = true := by decide

/-! ### Decoding, from 95_test_vectors.md section 2.7 and 30_encoding.md R94 -/

theorem test_decode_send : decode [0x01, 0x01, 0x41] = .ok (.send [0x41], []) := by decide
theorem test_decode_send_empty : decode [0x01, 0x00, 0x09] = .ok (.send [], [0x09]) := by decide
theorem test_decode_send_incomplete : decode [0x01, 0x02, 0x41] = .error .incomplete := by decide
theorem test_decode_txStart : decode [0x02, 0x00] = .ok (.txStart 0, []) := by decide
theorem test_decode_txStop : decode [0x03, 0x00] = .ok (.txStop 0, []) := by decide
theorem test_decode_rxStart : decode [0x04, 0x00] = .ok (.rxStart 0, []) := by decide
theorem test_decode_rxStop : decode [0x05, 0x00] = .ok (.rxStop 0, []) := by decide
theorem test_decode_haveMessage : decode [0x06, 0x00] = .ok (.haveMessage 0, []) := by decide
theorem test_decode_getMessage : decode [0x07, 0x1E] = .ok (.getMessage 30, []) := by decide
theorem test_decode_setPttInverted : decode [0x08, 0x02] = .ok (.setPttInverted 1 0, []) := by decide
theorem test_decode_readStatus : decode [0x09, 0xFF] = .ok (.readStatus 255, []) := by decide
theorem test_decode_reserved_00 : decode [0x00, 0x00] = .error (.reservedOpcode 0x00 0x00) := by decide
theorem test_decode_reserved_0A : decode [0x0A, 0x00] = .error (.reservedOpcode 0x0A 0x00) := by decide
theorem test_decode_reserved_FF : decode [0xFF, 0x00] = .error (.reservedOpcode 0xFF 0x00) := by decide
theorem test_decodeTableWord_send : decodeTableWord 16 0x0103 = some (.send [0, 0, 0]) := by decide
theorem test_decodeTableWord_reserved : decodeTableWord 16 0x0A00 = none := by decide
theorem test_encode_setPttInverted : encode (.setPttInverted 0 1) = [0x08, 0x01] := by decide

/-! ### Symbol codec and CRC, from 95_test_vectors.md sections 2.1 and 2.2 -/

theorem test_enc6_4 : enc6 defaultConfig 4 = 0x16 := by decide
theorem test_enc6_15 : enc6 defaultConfig 15 = 0x34 := by decide
theorem test_dec6_2C : dec6 defaultConfig 0x2C = (13, true) := by decide
theorem test_dec6_0D : dec6 defaultConfig 0x0D = (0, true) := by decide
theorem test_dec6_38 : dec6 defaultConfig 0x38 = (0, false) := by decide
theorem test_default_table_admissible : defaultConfig.Admissible := by decide
theorem test_crcUpdate_04 : crcUpdate 0xFFFF 0x04 = 0x49A3 := by decide
theorem test_crcUpdate_80 : crcUpdate 0x0000 0x80 = 0x8408 := by decide
theorem test_crcUpdate_56 : crcUpdate 0x1234 0x56 = 0x4006 := by decide
set_option maxRecDepth 8000 in
theorem test_crcBlock_check :
    crcBlock [0x31, 0x32, 0x33, 0x34, 0x35, 0x36, 0x37, 0x38, 0x39] = 0x6F91 := by decide
set_option maxRecDepth 8000 in
theorem test_frameBytes_41 : frameBytes [0x41] = [0x04, 0x41, 0xAA, 0x3B] := by decide
theorem test_frameBytes_empty : frameBytes [] = [0x03, 0xE3, 0xC2] := by decide
set_option maxRecDepth 8000 in
theorem test_frameSymbols_010203 : frameSymbols defaultConfig [0x01, 0x02, 0x03] =
    [0x1A, 0x0D, 0x0E, 0x0D, 0x13, 0x0D, 0x15, 0x0D, 0x15, 0x29, 0x2A, 0x32] := by decide

/-! ### Host commands, from 95_test_vectors.md section 2.7 -/

/-- The state after a command issued through the port. -/
def issue (bytes : List Byte) (s : State) : Option State :=
  nextOf (step { s with port := bytes, schedule := [.host] })

set_option maxRecDepth 8000 in
theorem test_send_41 : (issue [0x01, 0x01, 0x41] State.reset).map
    (fun s => ((List.range 8).map fun k => s.txByte (8 + k), s.txLen, s.txActive, s.pttOut, s.response)) =
    some ([0x16, 0x0D, 0x0E, 0x16, 0x26, 0x26, 0x29, 0x15], 16, true, true, [0x00]) := by decide
theorem test_send_28_bytes : (issue (0x01 :: 0x1C :: List.replicate 28 7) { State.reset with txActive := true }).map
    (fun s => (s.response, s.held, s.txLen, s.port)) = some ([0x01], none, 0, []) := by decide
theorem test_send_held : (issue [0x01, 0x01, 0x41] { State.reset with txActive := true }).map
    (fun s => (s.response, s.held, s.txLen)) = some ([], some [0x41], 0) := by decide
theorem test_txStart_from_reset : (issue [0x02, 0x00] State.reset).map
    (fun s => (s.txActive, s.pttOut, s.txMsgCount)) = some (true, true, 0) := by decide
theorem test_txStop_inverted_idle : (issue [0x03, 0x00] { State.reset with pttInverted := true }).map
    (fun s => (s.pttOut, s.txOut, s.txActive)) = some (true, false, false) := by decide
theorem test_txStop_leaves_cursor : (issue [0x03, 0x00] { State.reset with txActive := true, txIndex := 3 }).map
    (fun s => (s.txIndex, s.txMsgCount)) = some (3, 0) := by decide
theorem test_rxStart_from_disabled : (issue [0x04, 0x00] { State.reset with rxActive := true, rxDone := true }).map
    (fun s => (s.rxEnabled, s.rxActive, s.rxDone)) = some (true, false, true) := by decide
theorem test_rxStart_while_enabled : (issue [0x04, 0x00] { State.reset with rxEnabled := true, rxActive := true }).map
    (fun s => (s.rxEnabled, s.rxActive)) = some (true, true) := by decide
theorem test_rxStop_mid_frame : (issue [0x05, 0x00] { State.reset with rxEnabled := true, rxActive := true }).map
    (fun s => (s.rxEnabled, s.rxActive)) = some (false, true) := by decide
theorem test_haveMessage_pending : (issue [0x06, 0x00] { State.reset with rxDone := true }).map
    (fun s => (s.response, s.rxDone)) = some ([0x00, 0x01], true) := by decide

/-- A receiver with the frame of 45_rx_state_machine.md R200 pending. -/
def pending : State :=
  { State.reset with
    rxEnabled := true, rxBuf := [(0, 0x04), (1, 0x41), (2, 0xAA), (3, 0x3B)], rxCount := 4, rxLen := 4, rxDone := true }

set_option maxRecDepth 8000 in
theorem test_getMessage_30 : (issue [0x07, 0x1E] pending).map (fun s => (s.response, s.rxDone, s.rxLen)) =
    some ([0x00, 0x01, 0x01, 0x41], false, 4) := by decide
set_option maxRecDepth 8000 in
theorem test_getMessage_0_bad_crc :
    (issue [0x07, 0x00] { pending with rxBuf := [(0, 0x04), (1, 0x40), (2, 0xAA), (3, 0x3B)] }).map
      (fun s => (s.response, s.rxDone)) = some ([0x00, 0x00, 0x00], false) := by decide
theorem test_getMessage_not_ready : (issue [0x07, 0x1E] State.reset).map State.response = some [0x02] := by decide
theorem test_setPttInverted_3 : (issue [0x08, 0x03] State.reset).map (fun s => (s.pttInverted, s.pttOut)) =
    some (true, false) := by decide
theorem test_readStatus_flags_after_send :
    ((issue [0x01, 0x01, 0x41] State.reset).bind (issue [0x09, 0x03])).map State.response = some [0x00, 0x41] := by decide
theorem test_readStatus_4 : (issue [0x09, 0x04] State.reset).map State.response = some [0xFF] := by decide
theorem test_reserved_opcode : (issue [0x0A, 0x00] State.reset).map (fun s => (s.response, s.port)) =
    some ([0xFF], []) := by decide

/-! ### Ticks: the micro-steps of 44_pll.md R176 and 95_test_vectors.md sections 2.4, 2.5 and 2.6 -/

/-- A searching receiver whose path runs. -/
def running (ramp integ : Byte) (last : Bool) : State :=
  { State.reset with rxEnabled := true, rxRamp := ramp, rxIntegrator := integ, rxLastSample := last }

/-- The PLL registers after a tick. -/
def pllAfter (x : Bool) (s : State) : Option (Byte × Byte × Window) :=
  (nextOf (tick x s)).map fun t => (t.rxRamp, t.rxIntegrator, t.rxBits)

theorem test_pll_retard : pllAfter true (running 79 4 false) = some (90, 5, 0) := by decide
theorem test_pll_advance : pllAfter true (running 80 4 false) = some (109, 5, 0) := by decide
theorem test_pll_wrap_one : pllAfter true (running 140 4 false) = some (9, 0, 0x800) := by decide
theorem test_pll_wrap_zero : pllAfter false (running 150 4 true) = some (19, 0, 0) := by decide
theorem test_pll_nominal_wrap : pllAfter false (running 140 0 false) = some (0, 0, 0) := by decide
theorem test_pll_largest_sum : pllAfter true (running 159 4 false) = some (28, 0, 0x800) := by decide

/-- A receiver at the twelfth bit of a byte. -/
def atTwelfth (len count : Byte) (window : Window) : State :=
  { State.reset with
    rxEnabled := true, rxActive := true, rxBitCount := 11, rxLen := len, rxCount := count, rxBits := window }

theorem test_rxBit_count : (nextOf (rxBit (atTwelfth 0 0 0x356))).map
    (fun t => (t.rxCount, t.rxByte 0, t.rxLen, t.rxBitCount, t.rxActive)) = some (4, 0x04, 1, 0, true) := by decide
theorem test_rxBit_payload : (nextOf (rxBit (atTwelfth 1 4 0x58E))).map
    (fun t => (t.rxByte 1, t.rxLen, t.rxActive)) = some (0x41, 2, true) := by decide
theorem test_rxBit_completes : (nextOf (rxBit (atTwelfth 3 4 0x356))).map
    (fun t => (t.rxLen, t.rxActive, t.rxGood, t.rxDone)) = some (4, false, 1, true) := by decide
theorem test_rxBit_count_3 : (nextOf (rxBit (atTwelfth 0 0 0x355))).map
    (fun t => (t.rxActive, t.rxBad, t.rxCount, t.rxLen)) = some (false, 1, 0, 0) := by decide
theorem test_rxBit_count_31 : (nextOf (rxBit (atTwelfth 0 0 0x3B4))).map
    (fun t => (t.rxActive, t.rxBad)) = some (false, 1) := by decide
/-- Vector V5: the invalid symbol 0x0F decodes as nibble 0. -/
theorem test_rxBit_invalid_symbol_lax : (nextOf (rxBit (atTwelfth 1 4 0x58F))).map
    (fun t => (t.rxByte 1, t.rxBad)) = some (0x40, 0) := by decide
/-- Vector V6: the same symbol in strict mode aborts the frame. -/
theorem test_rxBit_invalid_symbol_strict :
    (nextOf (rxBit { atTwelfth 1 4 0x58F with config := { defaultConfig with strictSymbolCheck := true } })).map
      (fun t => (t.rxActive, t.rxBad, t.rxLen)) = some (false, 1, 1) := by decide
theorem test_rxBit_start : (nextOf (rxBit { State.reset with rxBits := 0xB38, rxDone := true, rxLen := 4 })).map
    (fun t => (t.rxActive, t.rxDone, t.rxLen, t.rxBitCount)) = some (true, false, 0, 0) := by decide

/-- A transmitter with the frame of one byte built. -/
def sending (index : Byte) (bit sample : BitVec 3) : State :=
  { State.reset with
    txActive := true, pttOut := true, txLen := 16, txIndex := index, txBit := bit, txSample := sample
    txBuf := [(8, 0x16), (9, 0x0D), (10, 0x0E), (11, 0x16), (12, 0x26), (13, 0x26), (14, 0x29), (15, 0x15)] }

theorem test_tx_header_bit : (nextOf (tick true (sending 0 1 0))).map
    (fun t => (t.txOut, t.txBit, t.txIndex, t.txSample, t.rxSample)) = some (true, 2, 0, 1, false) := by decide
theorem test_tx_last_bit : (nextOf (tick true (sending 15 5 0))).map
    (fun t => (t.txOut, t.txBit, t.txIndex, t.txActive)) = some (false, 0, 16, true) := by decide
theorem test_tx_end_of_frame : (nextOf (tick true (sending 16 0 0))).map
    (fun t => (t.txActive, t.pttOut, t.txMsgCount, t.txSample)) = some (false, false, 1, 1) := by decide

/-! ### Reset, the schedule, and the host's two questions -/

theorem test_header_after_reset : (List.range 10).map State.reset.txByte =
    [0x2A, 0x2A, 0x2A, 0x2A, 0x2A, 0x2A, 0x38, 0x2C, 0x00, 0x00] := by decide
theorem test_reset_memories : State.reset.txBuf.wf ∧ State.reset.rxBuf.wf := by decide
theorem test_reset_turn : (nextOf (step { pending with schedule := [.reset] })).map
    (fun t => (t.rxDone, t.rxEnabled, t.rxLen)) = some (false, false, 0) := by decide
theorem test_held_send_goes_first :
    (nextOf (step { State.reset with held := some [0x41], schedule := [.tick true] })).map
      (fun t => (t.held, t.txLen, t.schedule)) = some (none, 16, [.tick true]) := by decide
theorem test_fetch_word_send : (nextOf (step (State.reset.withFetchWord 16 0x0103))).map
    (fun t => (t.txLen, t.port)) = some (20, []) := by decide
theorem test_fetch_word_readStatus : (nextOf (step (State.reset.withFetchWord 16 0x0903))).map State.response =
    some [0x00, 0x00] := by decide

/-! ### Witnesses: a concrete input that meets the hypotheses of each statement -/

/-- The invariants at a concrete state, from decidable facts. -/
theorem invOf {s : State}
    (h : s.rxLen.toNat ≤ s.rxCount.toNat ∧
      (s.rxCount.toNat = 0 ∨ (4 ≤ s.rxCount.toNat ∧ s.rxCount.toNat ≤ 30)) ∧
      (s.rxActive = true → s.rxLen.toNat = 0 ∨ s.rxLen.toNat < s.rxCount.toNat) ∧
      (s.rxDone = true → s.rxActive = false ∧ s.rxLen = s.rxCount ∧ 4 ≤ s.rxLen.toNat) ∧
      (s.txLen.toNat = 0 ∨ (14 ≤ s.txLen.toNat ∧ s.txLen.toNat ≤ 68 ∧ s.txLen.toNat % 2 = 0)) ∧
      s.txIndex.toNat ≤ s.txLen.toNat ∧ s.txBit.toNat ≤ 5 ∧ s.rxRamp.toNat ≤ 159 ∧
      minRamp s.rxIntegrator.toNat ≤ s.rxRamp.toNat ∧ s.rxBitCount.toNat ≤ 11)
    (ht : s.txBuf.wf ∧ ∀ x ∈ s.txBuf, 8 ≤ x.1 ∧ x.1 < 68 ∧ x.2.toNat < 64)
    (hr : s.rxBuf.wf ∧ ∀ x ∈ s.rxBuf, x.1 < 30)
    (hh : ∀ d ∈ s.held, d.length ≤ 27) : s.Inv :=
  { rxLen_le_rxCount := h.1, rxCount_legal := h.2.1, frame_open := h.2.2.1, message := h.2.2.2.1
    txLen_legal := h.2.2.2.2.1, txIndex_le_txLen := h.2.2.2.2.2.1, txBit_legal := h.2.2.2.2.2.2.1
    rxRamp_legal := h.2.2.2.2.2.2.2.1, rxIntegrator_bound := h.2.2.2.2.2.2.2.2.1
    rxBitCount_legal := h.2.2.2.2.2.2.2.2.2, txBuf_wf := ht.1, txBuf_legal := ht.2, rxBuf_wf := hr.1
    rxBuf_legal := hr.2, held_legal := fun d hd => hh d (by rw [hd]; rfl) }

set_option maxRecDepth 8000 in
theorem witness_DecodeReadsBackEncode : (Instr.send (List.replicate 255 0xFF)).wellFormed = true := by decide
theorem witness_DecodedBytesReencode : decode [0x01, 0x01, 0x41, 0x09] = .ok (.send [0x41], [0x09]) := by decide
theorem witness_ReservedOpcodeAnswersIllegal :
    let s := { State.reset with schedule := [.host], port := [0x0A, 0x55] }
    (0x0A ≤ (0x0A : Byte).toNat) ∧ s.held = none ∧ s.schedule = [.host] ∧ s.port = 0x0A :: 0x55 :: [] := by decide
theorem witness_HostTurnRunsDecodedCommand :
    let s := { State.reset with schedule := [.host], port := [0x02, 0x00] }
    s.held = none ∧ s.schedule = [.host] ∧ decode s.port = .ok (.txStart 0, []) := by decide
theorem witness_TickTurnRunsTick :
    let s := { State.reset with held := some [], txActive := true, schedule := [.tick true] }
    (s.held = none ∨ s.txActive = true) ∧ s.schedule = [.tick true] := by decide
theorem witness_HeldSendGoesFirst :
    (let s := { State.reset with held := some [] }; s.held = some [] ∧ s.txActive = false) ∧
    (let s := { State.reset with held := some [], txActive := true, schedule := [.host] }
     s.held = some [] ∧ s.txActive = true ∧ s.schedule = [.host]) := by decide
theorem witness_FetchWordRunsNext : decodeTableWord 16 0x09FF = some (.readStatus 0xFF) := by decide
theorem witness_ResetWritesEveryRegister :
    let s := { pending with schedule := [.reset] }
    (s.held = none ∨ s.txActive = true) ∧ s.schedule = [.reset] := by decide
theorem witness_SymbolCodecRoundTrip : defaultConfig.Admissible := by decide
theorem witness_DecodeIsFirstMatch :
    (enc6 defaultConfig 13 = 0x2C ∧ ∀ m : Nibble, m < 13 → enc6 defaultConfig m ≠ 0x2C) ∧
    ∀ n : Nibble, enc6 defaultConfig n ≠ 0x38 := by decide
theorem witness_FrameBuildLaysOutSymbols : (List.replicate 27 (0 : Byte)).length ≤ 27 ∧ State.reset.txBuf.wf := by decide
theorem witness_SendRejectsLongPayload : 27 < (List.replicate 28 (0 : Byte)).length := by decide
theorem witness_SendHoldsWhileActive :
    (List.replicate 27 (0 : Byte)).length ≤ 27 ∧ (sending 0 0 0).txActive = true := by decide
theorem witness_SendBuildsAndStarts :
    (List.replicate 27 (0 : Byte)).length ≤ 27 ∧ pending.txActive = false ∧ pending.txBuf.wf := by decide
theorem witness_TxStartRestartsFrame : State.reset.txLen = 0 := by decide
theorem witness_RxStartDiscardsStaleFrame : State.reset.rxEnabled = false ∧ pending.rxEnabled = true := by decide
theorem witness_RxStopFreezesReceiver :
    let t := { atTwelfth 1 4 0x356 with rxEnabled := false, response := [0x00] }
    nextOf (execRxStop 0 (atTwelfth 1 4 0x356)) = some t ∧ nextOf (runTicks [true, false] t) = some t := by decide
theorem witness_HaveMessageReportsPending : pending.rxDone = true ∧ State.reset.rxDone = false := by decide
theorem witness_GetMessageRetrieves :
    State.reset.rxDone = false ∧ (pending.rxDone = true ∧ 4 ≤ pending.rxLen.toNat ∧ pending.rxLen.toNat ≤ 30) ∧
    (let s := { pending with rxLen := 30, rxCount := 30 }
     s.rxDone = true ∧ 4 ≤ s.rxLen.toNat ∧ s.rxLen.toNat ≤ 30) := by decide
theorem witness_UnformedIndicesFault :
    (let s := { sending 68 0 0 with txLen := 69 }
     s.txActive = true ∧ s.txSample = 0 ∧ s.txIndex < s.txLen ∧ 68 ≤ s.txIndex.toNat ∧
       faultOf (tick true s) = some (.txBufIndex 68)) ∧
    (30 ≤ (atTwelfth 30 31 0x356).rxLen.toNat ∧ faultOf (rxBit (atTwelfth 30 31 0x356)) = some (.rxBufIndex 30)) ∧
    (let s := { pending with rxLen := 31 }; s.rxDone = true ∧ 30 < s.rxLen.toNat) ∧
    (let s := { pending with rxLen := 2 }; s.rxDone = true ∧ s.rxLen.toNat < 3) := by decide
theorem witness_ReadStatusReportsCountersAndFlags : 4 ≤ (4 : Byte).toNat ∧ 4 ≤ (255 : Byte).toNat := by decide
theorem witness_CommandsLeaveTheRest :
    (nextOf (exec (.getMessage 30) pending)).isSome = true ∧
    (nextOf (exec (.send [0x41]) State.reset)).isSome = true ∧ State.reset.txBuf.wf := by decide
theorem witness_QuiescentBlockKeepsState : State.reset.rxEnabled = false ∧ State.reset.txActive = false := by decide
theorem witness_TransmitTickAdvances :
    (let s := sending 3 2 7; s.txActive = true ∧ s.txSample ≠ 0) ∧
    (let s := sending 16 0 0; s.txActive = true ∧ s.txSample = 0 ∧ s.txLen.toNat ≤ s.txIndex.toNat) ∧
    (let s := { sending 67 5 0 with txLen := 68 }
     s.txActive = true ∧ s.txSample = 0 ∧ s.txIndex.toNat < s.txLen.toNat ∧ s.txIndex.toNat < 68 ∧
       s.txBit.toNat ≤ 5) := by decide
theorem witness_PllTickIntegratesAndWraps :
    (let s := running 139 0 false
     s.rxEnabled = true ∧ s.txActive = false ∧ s.rxRamp.toNat ≤ 159 ∧ s.rxIntegrator.toNat < 255 ∧
       s.rxRamp.toNat + 20 < 160) ∧
    (let s := running 159 4 false
     s.rxEnabled = true ∧ s.txActive = false ∧ s.rxRamp.toNat ≤ 159 ∧ s.rxIntegrator.toNat < 255 ∧
       160 ≤ s.rxRamp.toNat + 29) := by decide
theorem witness_SearchDetectsStartPattern :
    (let s := { State.reset with rxBits := 0xB38 }; s.rxActive = false ∧ s.rxBits = 0xB38) ∧
    State.reset.rxActive = false ∧ State.reset.rxBits ≠ 0xB38 := by decide
theorem witness_AssemblyTakesTwelveBits :
    (let s := { atTwelfth 0 0 0x356 with rxBitCount := 10 }; s.rxActive = true ∧ s.rxBitCount.toNat < 11) ∧
    (let s := atTwelfth 29 30 0x356
     s.rxActive = true ∧ s.rxBitCount.toNat = 11 ∧ s.rxLen.toNat < 30 ∧ s.rxBuf.wf) := by decide
/-- Each case of the twelfth bit: a strict abort, a count of 31, a byte that completes a frame, one that does not. -/
theorem witness_AssemblyTakesTwelveBits_cases :
    (let c : Config := { defaultConfig with strictSymbolCheck := true }
     c.strictSymbolCheck = true ∧ (dec6 c (BitVec.ofNat 6 0x58F)).2 = false) ∧
    30 < 16 * (dec6 defaultConfig (BitVec.ofNat 6 (0x3B4 / 64))).1.toNat +
      (dec6 defaultConfig (BitVec.ofNat 6 0x3B4)).1.toNat ∧
    (atTwelfth 29 30 0x356).rxLen.toNat + 1 = (atTwelfth 29 30 0x356).rxCount.toNat ∧
    (atTwelfth 1 4 0x356).rxLen.toNat + 1 ≠ (atTwelfth 1 4 0x356).rxCount.toNat := by decide
theorem witness_ReceivePathFrozen :
    (let s := { sending 0 0 0 with rxEnabled := true }
     (s.rxEnabled = false ∨ s.txActive = true) ∧ (nextOf (tick true s)).isSome = true) ∧
    ((pending.rxEnabled = false ∨ State.reset.rxEnabled = false) ∧ (nextOf (tick true State.reset)).isSome = true) := by
  decide
theorem witness_ReceiveTickLeavesTransmitter :
    pending.rxEnabled = true ∧ pending.txActive = false ∧ (nextOf (tick true pending)).isSome = true := by decide
theorem inv_running : (running 19 0 true).Inv := invOf (by decide) (by decide) (by decide) (by decide)
theorem witness_SteadyInputGivesOneBitPerEightTicks :
    (running 19 0 true).Inv ∧ (running 19 0 true).rxEnabled = true ∧ (running 19 0 true).txActive = false ∧
    (running 19 0 true).rxLastSample = true ∧ (running 19 0 true).rxRamp.toNat < 20 ∧
    (running 19 0 true).rxIntegrator = 0 := ⟨inv_running, by decide⟩
theorem witness_TransmitTiming :
    (nextOf (exec (.txStart 0) { sending 3 2 1 with txActive := false })).isSome = true ∧
    (sending 3 2 1).txLen.toNat ≤ 68 ∧
    1 ≤ (List.replicate 768 true).length ∧ (List.replicate 768 true).length ≤ 8 * (6 * (sending 3 2 1).txLen.toNat) ∧
    (List.replicate 769 true).length = 8 * (6 * (sending 3 2 1).txLen.toNat) + 1 := by
  simp only [List.length_replicate]
  decide
set_option maxRecDepth 8000 in
theorem witness_SendPutsFrameOnTheLine :
    ([0x41] : List Byte).length ≤ 27 ∧ State.reset.txActive = false ∧ State.reset.txBuf.wf ∧
    1 ≤ (List.replicate 768 true).length ∧
    (List.replicate 768 true).length ≤ (lineSamples (wireBits (header ++ frameSymbols State.reset.config [0x41]))).length ∧
    (List.replicate 769 true).length =
      (lineSamples (wireBits (header ++ frameSymbols State.reset.config [0x41]))).length + 1 := by
  simp only [List.length_replicate]
  decide
theorem witness_RecoveredFrameRoundTrips :
    1 ≤ (List.replicate 27 (0x55 : Byte)).length ∧ (List.replicate 27 (0x55 : Byte)).length ≤ 27 ∧
    State.reset.config.Admissible ∧ State.reset.rxBuf.wf ∧ State.reset.rxActive = false ∧ State.reset.rxBits = 0 ∧
    (List.replicate 27 (0x55 : Byte)).length ≤ (27 : Byte).toNat := by decide
theorem witness_EmptyFrameIsDiscarded :
    State.reset.config.Admissible ∧ State.reset.rxActive = false ∧ State.reset.rxBits = 0 := by decide
theorem witness_LoopbackDeliversPayload :
    defaultConfig.Admissible ∧ 1 ≤ ([0x41] : List Byte).length ∧ ([0x41] : List Byte).length ≤ 27 ∧ 1 ≤ 1 ∧
    ([0x41] : List Byte).length ≤ (1 : Byte).toNat := by decide
theorem inv_sending : (sending 16 0 1).Inv := invOf (by decide) (by decide) (by decide) (by decide)
theorem witness_TransmitterReturnsToIdle :
    (sending 16 0 1).Inv ∧ (sending 16 0 1).txActive = true ∧
    ([false, true] : List Bool).length < (8 - (sending 16 0 1).txSample.toNat) % 8 +
      8 * (6 * ((sending 16 0 1).txLen.toNat - (sending 16 0 1).txIndex.toNat) - (sending 16 0 1).txBit.toNat) + 1 ∧
    (List.replicate 8 true).length = (8 - (sending 16 0 1).txSample.toNat) % 8 +
      8 * (6 * ((sending 16 0 1).txLen.toNat - (sending 16 0 1).txIndex.toNat) - (sending 16 0 1).txBit.toNat) + 1 :=
  ⟨inv_sending, by decide⟩
theorem inv_atTwelfth : (atTwelfth 29 30 0x356).Inv := invOf (by decide) (by decide) (by decide) (by decide)
theorem witness_ReceiverLeavesFrame :
    (atTwelfth 29 30 0x356).Inv ∧ (atTwelfth 29 30 0x356).rxEnabled = true ∧ (atTwelfth 29 30 0x356).txActive = false ∧
    (atTwelfth 29 30 0x356).rxActive = true ∧
    (30 - (atTwelfth 29 30 0x356).rxLen.toNat) * 144 ≤ (List.replicate 144 true).length := by
  refine ⟨inv_atTwelfth, ?_⟩
  simp only [List.length_replicate]
  decide
/-- A transmitter with a SEND held and ticks enough on the schedule. -/
def holding : State :=
  { sending 15 5 1 with held := some [0x41], schedule := (List.replicate 3272 true).map Turn.tick ++ [] }
theorem inv_holding : holding.Inv := invOf (by decide) (by decide) (by decide) (by decide)
theorem witness_HeldSendCompletes :
    holding.Inv ∧ holding.held = some [0x41] ∧ holding.txActive = true ∧
    holding.schedule = (List.replicate 3272 true).map Turn.tick ++ [] ∧ 3272 ≤ (List.replicate 3272 true).length :=
  ⟨inv_holding, rfl, rfl, rfl, by simp only [List.length_replicate]; exact le_refl _⟩
theorem inv_pending : pending.Inv := invOf (by decide) (by decide) (by decide) (by decide)
theorem witness_StepKeepsInvariants :
    pending.Inv ∧ (nextOf (step { pending with schedule := [.tick true] })).isSome = true := ⟨inv_pending, by decide⟩
theorem witness_NoFatalErrorPath : (atTwelfth 29 30 0x356).Inv := inv_atTwelfth
theorem witness_PttFollowsTransmitState :
    State.reset.PttFollows ∧ (nextOf (step { State.reset with schedule := [.host], port := [0x08, 0x01] })).isSome = true :=
  ⟨rfl, by decide⟩
theorem witness_UnwrittenRxBytesNeverMatter :
    let t := { pending with rxBuf := [(0, 0x04), (1, 0x41), (2, 0xAA), (3, 0x3B), (29, 0xFF)], schedule := [.tick true] }
    let s := { pending with schedule := [.tick true] }
    s.rxBuf.wf ∧ t.rxBuf.wf ∧ AgreeOnFrame s t ∧ (nextOf (step s)).isSome = true := by
  refine ⟨by decide, by decide, ⟨rfl, ?_⟩, by decide⟩
  show ∀ a, a < 4 → _
  decide
theorem witness_UnwrittenRxBytesNeverMatter_fault :
    let s := { pending with rxLen := 2, schedule := [.host], port := [0x07, 0x00] }
    AgreeOnFrame s s ∧ faultOf (step s) = some (.rxLenTooShort 2) := ⟨⟨rfl, fun _ _ => rfl⟩, by decide⟩
theorem witness_PendingMessageIsStable :
    pending.Inv ∧ pending.rxDone = true ∧
    (nextOf (step { pending with schedule := [.tick true] })).map State.rxDone = some true := ⟨inv_pending, by decide⟩
theorem witness_FrameInFlightIsStable :
    (let s := { sending 3 2 0 with schedule := [.tick true] }
     (nextOf (step s)).isSome = true ∧ s.txActive = true ∧ s.schedule.head? ≠ some .reset) := by decide
theorem witness_ParametersNeverChange : (nextOf (step { pending with schedule := [.reset] })).isSome = true := by decide
theorem witness_OnlyRxCommandsWriteEnable :
    (issue [0x04, 0x00] State.reset).map State.rxEnabled = some true ∧ State.reset.rxEnabled = false ∧
    (issue [0x05, 0x00] pending).map State.rxEnabled = some false ∧ pending.rxEnabled = true := by decide
theorem witness_OnlySetPttInvertedWritesPolarity :
    (issue [0x08, 0x01] State.reset).map State.pttInverted = some true ∧ State.reset.pttInverted = false := by decide
theorem witness_TransmitStateTransitions :
    (nextOf (step { State.reset with held := some [] })).map State.txActive = some true ∧
    (issue [0x02, 0x00] State.reset).map State.txActive = some true ∧
    (issue [0x03, 0x00] (sending 3 2 0)).map State.txActive = some false ∧
    (nextOf (step { sending 16 0 0 with schedule := [.tick true] })).map State.txActive = some false := by decide
theorem witness_PendingFlagTransitions :
    (nextOf (step { atTwelfth 3 4 0x6AC with rxRamp := 150, schedule := [.tick false] })).map State.rxDone = some true ∧
    (nextOf (step { pending with rxBits := 0x670, rxIntegrator := 5, rxRamp := 150, schedule := [.tick false] })).map
      State.rxDone = some false ∧
    (issue [0x07, 0x00] pending).map State.rxDone = some false := by decide
theorem witness_SentCounterCountsFrameEnds :
    (nextOf (step { sending 16 0 0 with txMsgCount := 255, schedule := [.tick true] })).map State.txMsgCount =
      some 0 := by decide
theorem witness_GoodCounterCountsCompletions :
    (nextOf (step { atTwelfth 3 4 0x6AC with rxGood := 255, rxRamp := 150, schedule := [.tick false] })).map
      State.rxGood = some 0 := by decide
theorem witness_BadCounterCountsAborts :
    (nextOf (step { atTwelfth 0 0 0x6AA with rxBad := 255, rxRamp := 150, schedule := [.tick false] })).map
      State.rxBad = some 0 := by decide

end Sys2Proof.Tests
end

/-! What one step can do, as inductive relations with a name for each case, and what each case can write. -/

section

namespace Sys2Proof.Machine

/-! ### Commands -/

/-- What a command does to the state it is issued in (46_host_commands.md). `answered` stands for every command that
writes its response and nothing else. -/
inductive CommandEffect (s : State) : Instr → State → Prop
  | answered (i : Instr) (c : ResultCode) (d : List Byte) : CommandEffect s i (respond c d s)
  | sendHeld {d : List Byte} (hlen : d.length ≤ 27) (hactive : s.txActive = true) :
      CommandEffect s (.send d) (hold d s)
  | sendAccepted {d : List Byte} (hlen : d.length ≤ 27) (hidle : s.txActive = false) :
      CommandEffect s (.send d) (respond .ok [] (txStart (frameBuild d s)))
  | txStarted (imm8 : Byte) : CommandEffect s (.txStart imm8) (respond .ok [] (txStart s))
  | txStopped (imm8 : Byte) : CommandEffect s (.txStop imm8) (respond .ok [] (txStop s))
  | rxStarted (imm8 : Byte) : CommandEffect s (.rxStart imm8) (respond .ok []
      { s with rxEnabled := true, rxActive := if s.rxEnabled then s.rxActive else false })
  | rxStopped (imm8 : Byte) : CommandEffect s (.rxStop imm8) (respond .ok [] { s with rxEnabled := false })
  | messageTaken (maxLen : Byte) (hdone : s.rxDone = true) (hlow : 3 ≤ s.rxLen.toNat) (hhigh : s.rxLen.toNat ≤ 30) :
      CommandEffect s (.getMessage maxLen) (respond .ok
        (BitVec.ofNat 8 (s.messageData maxLen).length :: byteOfBool s.crcOk :: s.messageData maxLen)
        { s with rxDone := false })
  | polaritySet (ignored : BitVec 7) (inv : BitVec 1) :
      CommandEffect s (.setPttInverted ignored inv) (respond .ok [] { s with pttInverted := invOperand inv })

theorem exec_effect {i : Instr} {s t : State} (h : exec i s = .next t) : CommandEffect s i t := by
  cases i with
  | send d =>
    rcases execSend_cases h with ⟨_, rfl⟩ | ⟨hlen, hactive, rfl⟩ | ⟨hlen, hidle, rfl⟩
    · exact .answered _ _ _
    · exact .sendHeld hlen hactive
    · exact .sendAccepted hlen hidle
  | txStart imm8 => cases h; exact .txStarted imm8
  | txStop imm8 => cases h; exact .txStopped imm8
  | rxStart imm8 => cases h; exact .rxStarted imm8
  | rxStop imm8 => cases h; exact .rxStopped imm8
  | haveMessage imm8 => cases h; exact .answered _ _ _
  | getMessage maxLen =>
    rcases execGetMessage_cases h with ⟨_, rfl⟩ | ⟨hdone, hlow, hhigh, rfl⟩
    · exact .answered _ _ _
    · exact .messageTaken maxLen hdone hlow hhigh
  | setPttInverted ignored inv => cases h; exact .polaritySet ignored inv
  | readStatus sel =>
    obtain ⟨c, d, hexec⟩ := execReadStatus_frame sel s
    cases hexec.symm.trans h
    exact .answered _ c d

/-- What a command can write: the parameters, the PLL, `RxBuf` with its counters, the event counters, the port and the
schedule stay (46_host_commands.md R223). -/
theorem exec_frame {i : Instr} {s t : State} (h : exec i s = .next t) :
    t = { s with
      pttInverted := t.pttInverted, rxEnabled := t.rxEnabled, txActive := t.txActive, txBuf := t.txBuf
      txLen := t.txLen, txIndex := t.txIndex, txBit := t.txBit, txSample := t.txSample, txOut := t.txOut
      pttOut := t.pttOut, rxActive := t.rxActive, rxDone := t.rxDone, response := t.response, held := t.held } := by
  cases exec_effect h <;> rfl

/-! ### Ticks -/

/-- The state in which a recovered bit goes to `rx_bit`, in a tick that samples `x` (44_pll.md R175). -/
def State.atWrap (x : Bool) (s : State) : State := wrapRamp (advanceRamp (integrate { s with rxSample := x }))

@[simp] theorem atWrap_config (x : Bool) (s : State) : (s.atWrap x).config = s.config := by simp [State.atWrap]
@[simp] theorem atWrap_rxActive (x : Bool) (s : State) : (s.atWrap x).rxActive = s.rxActive := by simp [State.atWrap]
@[simp] theorem atWrap_rxBuf (x : Bool) (s : State) : (s.atWrap x).rxBuf = s.rxBuf := by simp [State.atWrap]
@[simp] theorem atWrap_rxCount (x : Bool) (s : State) : (s.atWrap x).rxCount = s.rxCount := by simp [State.atWrap]
@[simp] theorem atWrap_rxLen (x : Bool) (s : State) : (s.atWrap x).rxLen = s.rxLen := by simp [State.atWrap]
@[simp] theorem atWrap_rxDone (x : Bool) (s : State) : (s.atWrap x).rxDone = s.rxDone := by simp [State.atWrap]
@[simp] theorem atWrap_rxGood (x : Bool) (s : State) : (s.atWrap x).rxGood = s.rxGood := by simp [State.atWrap]
@[simp] theorem atWrap_rxBad (x : Bool) (s : State) : (s.atWrap x).rxBad = s.rxBad := by simp [State.atWrap]

/-- What a tick that samples `x` does (47_tick.md R240; 43_tx_state_machine.md R153; 44_pll.md R175). -/
inductive TickEffect (x : Bool) (s : State) : State → Prop
  | quiescent (hdisabled : s.rxEnabled = false) (hidle : s.txActive = false) : TickEffect x s s
  | sampleCounted (hactive : s.txActive = true) (hsample : s.txSample ≠ 0) :
      TickEffect x s { s with txSample := s.txSample + 1 }
  | frameEnded (hactive : s.txActive = true) (hsample : s.txSample = 0) (hend : s.txLen ≤ s.txIndex) :
      TickEffect x s (endOfFrame { s with txSample := 1 })
  | bitSent (hactive : s.txActive = true) (hsample : s.txSample = 0) (hmore : ¬ s.txLen ≤ s.txIndex)
      (hroom : s.txIndex.toNat < 68) : TickEffect x s (sendBit { s with txSample := 1 })
  | rampAdvanced (henabled : s.rxEnabled = true) (hidle : s.txActive = false)
      (hramp : ¬ rampLen ≤ s.rxRamp + ({ s with rxSample := x } : State).rampGain) :
      TickEffect x s (advanceRamp (integrate { s with rxSample := x }))
  | bitRecovered {t : State} (henabled : s.rxEnabled = true) (hidle : s.txActive = false)
      (hramp : rampLen ≤ s.rxRamp + ({ s with rxSample := x } : State).rampGain)
      (hbit : rxBit (s.atWrap x) = .next t) : TickEffect x s t

theorem tick_effect {x : Bool} {s t : State} (h : tick x s = .next t) : TickEffect x s t := by
  rcases tick_cases h with ⟨henabled, hidle, h⟩ | ⟨hactive, h⟩ | ⟨hdisabled, hidle, rfl⟩
  · rcases pllStep_cases h with ⟨hramp, h⟩ | ⟨hramp, rfl⟩
    · exact .bitRecovered henabled hidle hramp h
    · exact .rampAdvanced henabled hidle hramp
  · rcases txStep_cases h with ⟨hsample, rfl⟩ | ⟨hsample, hend, rfl⟩ | ⟨hsample, hmore, hroom, rfl⟩
    · exact .sampleCounted hactive hsample
    · exact .frameEnded hactive hsample hend
    · exact .bitSent hactive hsample hmore hroom
  · exact .quiescent hdisabled hidle

/-- The `count` of the current frame once the byte in the window has come: that byte where it is the first
(45_rx_state_machine.md R195). -/
def State.awaitedCount (s : State) : Byte := if s.rxLen = 0 then s.windowByte else s.rxCount

/-- The state after the store of the byte in the window (45_rx_state_machine.md R193, R196). -/
def State.withByteStored (s : State) : State :=
  storeByte s.windowByte (captureCount s.windowByte { s with rxBitCount := 0 })

@[simp] theorem withByteStored_rxDone (s : State) : s.withByteStored.rxDone = s.rxDone := rfl
@[simp] theorem withByteStored_rxGood (s : State) : s.withByteStored.rxGood = s.rxGood := rfl
@[simp] theorem withByteStored_rxBad (s : State) : s.withByteStored.rxBad = s.rxBad := rfl

/-- What a recovered bit that stands in the window does (45_rx_state_machine.md R190 to R197). -/
inductive BitEffect (s : State) : State → Prop
  | startFound (hidle : s.rxActive = false) (hbits : s.rxBits = startPattern) : BitEffect s (startDetected s)
  | searched (hidle : s.rxActive = false) (hbits : s.rxBits ≠ startPattern) : BitEffect s s
  | bitCounted (hactive : s.rxActive = true) (hcount : s.rxBitCount + 1 ≠ 12) :
      BitEffect s { s with rxBitCount := s.rxBitCount + 1 }
  | frameAborted (hactive : s.rxActive = true) (hcount : s.rxBitCount + 1 = 12)
      (hstrict : s.config.strictSymbolCheck = false → s.rxLen = 0) :
      BitEffect s (countAbort { s with rxBitCount := 0 })
  | frameCompleted (hactive : s.rxActive = true) (hcount : s.rxBitCount + 1 = 12)
      (hfirst : s.rxLen = 0 → badCount s.windowByte = false) (hroom : s.rxLen.toNat < 30)
      (hlast : s.rxLen + 1 = s.awaitedCount) :
      BitEffect s (completeFrame s.withByteStored)
  | byteStored (hactive : s.rxActive = true) (hcount : s.rxBitCount + 1 = 12)
      (hfirst : s.rxLen = 0 → badCount s.windowByte = false) (hroom : s.rxLen.toNat < 30)
      (hmore : s.rxLen + 1 ≠ s.awaitedCount) : BitEffect s s.withByteStored

theorem rxBit_effect {s t : State} (h : rxBit s = .next t) : BitEffect s t := by
  rcases rxBit_cases h with ⟨hidle, hbits, rfl⟩ | ⟨hidle, hbits, rfl⟩ | ⟨hactive, hcount, rfl⟩ | ⟨hactive, hcount, h⟩
  · exact .startFound hidle hbits
  · exact .searched hidle hbits
  · exact .bitCounted hactive hcount
  · rcases takeByte_cases h with ⟨hstrict, _, rfl⟩ | ⟨hlen, _, rfl⟩ | ⟨hfirst, h⟩
    · exact .frameAborted hactive hcount fun hlax => absurd (hlax.symm.trans hstrict) Bool.false_ne_true
    · exact .frameAborted hactive hcount fun _ => hlen
    · rcases acceptByte_cases h with ⟨hroom, ⟨hlast, rfl⟩ | ⟨hmore, rfl⟩⟩
      · exact .frameCompleted hactive hcount hfirst hroom hlast
      · exact .byteStored hactive hcount hfirst hroom hmore

/-! ### Steps -/

/-- What a step does: a held SEND, a tick, a command or a reset, or nothing but a move of the interface
(20_memory.md R69). -/
inductive StepEffect (s : State) : State → Prop
  | heldSend {t : State} (d : List Byte) (hheld : s.held = some d) (hidle : s.txActive = false)
      (hexec : exec (.send d) { s with held := none } = .next t) : StepEffect s t
  | ticked {t : State} (x : Bool) (q : List Turn) (hturn : s.schedule = .tick x :: q)
      (htick : tick x { s with schedule := q } = .next t) : StepEffect s t
  | command {t : State} (q : List Turn) (i : Instr) (rest : List Byte) (hturn : s.schedule = .host :: q)
      (hfree : s.held = none) (hdecode : decode s.port = .ok (i, rest))
      (hexec : exec i { s with schedule := q, port := rest } = .next t) : StepEffect s t
  | wasReset (q : List Turn) (hturn : s.schedule = .reset :: q) : StepEffect s (resetBlock { s with schedule := q })
  | interfaceOnly (q : List Turn) (p r : List Byte) :
      StepEffect s { s with schedule := q, port := p, response := r }

theorem step_effect {s t : State} (h : step s = .next t) : StepEffect s t := by
  rcases step_cases h with ⟨d, hheld, hidle, h⟩ | ⟨_, ⟨_, rfl⟩ | ⟨x, q, hturn, h⟩ | ⟨q, hturn, rfl⟩ |
    ⟨q, _, _, _, rfl⟩ | ⟨q, hturn, hfree, h⟩⟩
  · exact .heldSend d hheld hidle h
  · exact .interfaceOnly _ _ _
  · exact .ticked x q hturn h
  · exact .wasReset q hturn
  · exact .interfaceOnly q _ _
  · rcases hostTurn_cases h with ⟨i, rest, hdecode, h⟩ | ⟨_, _, _, rfl⟩ | ⟨_, rfl⟩
    · exact .command q i rest hturn hfree hdecode h
    · exact .interfaceOnly q _ _
    · exact .interfaceOnly q _ _

end Sys2Proof.Machine

end

/-! The invariants of 10_state.md R52, operation by operation. -/

section

namespace Sys2Proof.Machine

/-! ### Commands and reset -/

theorem respond_inv {s : State} (hs : s.Inv) (c : ResultCode) (d : List Byte) : (respond c d s).Inv := { hs with }

theorem hold_inv {s : State} (hs : s.Inv) {d : List Byte} (hlen : d.length ≤ 27) : (hold d s).Inv :=
  { hs with held_legal := fun _ he => Option.some.inj he ▸ hlen }

theorem txStart_inv {s : State} (hs : s.Inv) : (txStart s).Inv :=
  { hs with
    txIndex_le_txLen := Nat.zero_le _
    txBit_legal := Nat.zero_le _ }

theorem txStop_inv {s : State} (hs : s.Inv) : (txStop s).Inv := { hs with }

theorem frameBuild_txBuf_legal {s : State} (hs : s.Inv) {d : List Byte} (hlen : d.length ≤ 27) :
    ∀ x ∈ (frameBuild d s).txBuf, 8 ≤ x.1 ∧ x.1 < 68 ∧ x.2.toNat < 64 := by
  intro x hx
  rw [frameBuild_txBuf, writeTx_headerLen] at hx
  rcases Memory.mem_writeFrom hx with ⟨hlow, hhigh, hsymbol⟩ | hx
  · rw [frameSymbols_length] at hhigh
    exact ⟨hlow, by unfold headerLen at hhigh; omega, frameSymbols_lt hsymbol⟩
  · exact hs.txBuf_legal x hx

theorem txStart_frameBuild_inv {s : State} (hs : s.Inv) {d : List Byte} (hlen : d.length ≤ 27) :
    (txStart (frameBuild d s)).Inv :=
  { hs with
    txLen_legal := by
      rw [txStart_txLen, frameBuild_txLen_toNat hlen]
      omega
    txIndex_le_txLen := Nat.zero_le _
    txBit_legal := Nat.zero_le _
    txBuf_wf := frameBuild_txBuf_wf hs.txBuf_wf d
    txBuf_legal := frameBuild_txBuf_legal hs hlen }

theorem startReceiver_inv {s : State} (hs : s.Inv) :
    ({ s with rxEnabled := true, rxActive := if s.rxEnabled then s.rxActive else false } : State).Inv := by
  have hactive : (if s.rxEnabled then s.rxActive else false) = true → s.rxActive = true := by simp
  exact
    { hs with
      frame_open := fun ha => hs.frame_open (hactive ha)
      message := fun hdone => by
        obtain ⟨hidle, hlen⟩ := hs.message hdone
        exact ⟨by simp [hidle], hlen⟩ }

theorem clearMessage_inv {s : State} (hs : s.Inv) : ({ s with rxDone := false } : State).Inv :=
  { hs with message := fun h => absurd h Bool.false_ne_true }

/-- Every command keeps the invariants. -/
theorem exec_inv {i : Instr} {s t : State} (h : exec i s = .next t) (hs : s.Inv) : t.Inv := by
  cases exec_effect h with
  | answered _ c d => exact respond_inv hs c d
  | sendHeld hlen _ => exact hold_inv hs hlen
  | sendAccepted hlen _ => exact respond_inv (txStart_frameBuild_inv hs hlen) _ _
  | txStarted _ => exact respond_inv (txStart_inv hs) _ _
  | txStopped _ => exact respond_inv (txStop_inv hs) _ _
  | rxStarted _ => exact respond_inv (startReceiver_inv hs) _ _
  | rxStopped _ => exact { hs with }
  | messageTaken _ _ _ _ => exact respond_inv (clearMessage_inv hs) _ _
  | polaritySet _ _ => exact { hs with }

/-- A reset establishes the invariants, whatever the state, but for the held SEND, which it leaves. -/
theorem resetBlock_inv {s : State} (hheld : ∀ d, s.held = some d → d.length ≤ 27) : (resetBlock s).Inv where
  rxLen_le_rxCount := Nat.le_refl _
  rxCount_legal := .inl rfl
  frame_open := fun h => absurd h Bool.false_ne_true
  message := fun h => absurd h Bool.false_ne_true
  txLen_legal := .inl rfl
  txIndex_le_txLen := Nat.le_refl _
  txBit_legal := Nat.zero_le _
  rxRamp_legal := Nat.zero_le _
  rxIntegrator_bound := Nat.zero_le _
  rxBitCount_legal := Nat.zero_le _
  txBuf_wf := ⟨.nil, nofun⟩
  txBuf_legal := nofun
  rxBuf_wf := ⟨.nil, nofun⟩
  rxBuf_legal := nofun
  held_legal := hheld

/-! ### The transmitter's ticks -/

theorem endOfFrame_inv {s : State} (hs : s.Inv) : (endOfFrame s).Inv := { hs with }

theorem sendBit_inv {s : State} (hs : s.Inv) (hmore : ¬ s.txLen ≤ s.txIndex) : (sendBit s).Inv :=
  { hs with
    txIndex_le_txLen := by
      have hlt : s.txIndex.toNat < s.txLen.toNat := by rwa [BitVec.le_def, Nat.not_le] at hmore
      rw [sendBit_txIndex, sendBit_txLen]
      split
      · bv_omega
      · omega
    txBit_legal := by
      have hlegal := hs.txBit_legal
      rw [sendBit_txBit]
      split
      · exact Nat.zero_le _
      · rename_i hlast
        simp only [State.atLastSymbolBit, symbolBits, beq_iff_eq] at hlast
        bv_omega }

/-! ### The PLL -/

theorem byte_succ_toNat {b : Byte} (h : b.toNat < 255) : (b + 1).toNat = b.toNat + 1 := by
  bv_omega

theorem rampGain_bounds (s : State) :
    11 ≤ s.rampGain.toNat ∧ s.rampGain.toNat ≤ 29 ∧ (80 ≤ s.rxRamp.toNat → 20 ≤ s.rampGain.toNat) := by
  unfold State.rampGain
  split
  · split
    · rename_i hlow
      have : s.rxRamp.toNat < 80 := hlow
      exact ⟨by decide, by decide, by omega⟩
    · exact ⟨by decide, by decide, fun _ => by decide⟩
  · exact ⟨by decide, by decide, fun _ => by decide⟩

/-- A legal ramp does not overflow its byte when it advances. -/
theorem advance_toNat {s : State} (hramp : s.rxRamp.toNat ≤ 159) :
    (s.rxRamp + s.rampGain).toNat = s.rxRamp.toNat + s.rampGain.toNat := by
  obtain ⟨_, hgain, _⟩ := rampGain_bounds s
  rw [BitVec.toNat_add]
  omega

/-- A tick that counts a one lifts the bound on the ramp by no more than the ramp's advance. -/
theorem minRamp_succ_le {k ramp gain : Nat} (hk : minRamp k ≤ ramp) (hslow : 11 ≤ gain)
    (hfast : 80 ≤ ramp → 20 ≤ gain) : minRamp (k + 1) ≤ ramp + gain := by
  unfold minRamp at *
  omega

theorem integrate_bound {s : State} (hramp : s.rxRamp.toNat ≤ 159)
    (hones : minRamp s.rxIntegrator.toNat ≤ s.rxRamp.toNat) :
    minRamp (integrate s).rxIntegrator.toNat ≤ (s.rxRamp + s.rampGain).toNat := by
  obtain ⟨hslow, _, hfast⟩ := rampGain_bounds s
  rw [advance_toNat hramp, integrate_rxIntegrator]
  split
  · have hsmall : s.rxIntegrator.toNat < 255 := by
      unfold minRamp at hones
      omega
    rw [byte_succ_toNat hsmall]
    exact minRamp_succ_le hones hslow hfast
  · omega

theorem advanceRamp_inv {s : State} (hs : s.Inv) (hramp : ¬ rampLen ≤ s.rxRamp + s.rampGain) :
    (advanceRamp (integrate s)).Inv :=
  { hs with
    rxRamp_legal := by
      rw [BitVec.le_def, Nat.not_le] at hramp
      exact Nat.le_of_lt_succ hramp
    rxIntegrator_bound := integrate_bound hs.rxRamp_legal hs.rxIntegrator_bound }

theorem wrapRamp_inv {s : State} (hs : s.Inv) (hramp : rampLen ≤ s.rxRamp + s.rampGain) :
    (wrapRamp (advanceRamp (integrate s))).Inv :=
  { hs with
    rxRamp_legal := by
      obtain ⟨_, hgain, _⟩ := rampGain_bounds s
      have hlegal := hs.rxRamp_legal
      show (s.rxRamp + s.rampGain - rampLen).toNat ≤ 159
      rw [BitVec.toNat_sub_of_le hramp, advance_toNat hlegal]
      have hlen : rampLen.toNat = 160 := rfl
      omega
    rxIntegrator_bound := Nat.zero_le _ }

/-! ### The receiver -/

theorem badCount_eq_false_iff (b : Byte) : badCount b = false ↔ 4 ≤ b.toNat ∧ b.toNat ≤ 30 := by
  simp [badCount, minCount, maxMessageLen, BitVec.le_def]

/-- A frame that takes another byte awaits a legal number of bytes, this one among them. -/
theorem awaitedCount_legal {s : State} (hs : s.Inv) (hactive : s.rxActive = true)
    (hfirst : s.rxLen = 0 → badCount s.windowByte = false) :
    4 ≤ s.awaitedCount.toNat ∧ s.awaitedCount.toNat ≤ 30 ∧ s.rxLen.toNat < s.awaitedCount.toNat := by
  unfold State.awaitedCount
  split
  · rename_i hzero
    obtain ⟨hlow, hhigh⟩ := (badCount_eq_false_iff _).mp (hfirst hzero)
    exact ⟨hlow, hhigh, hzero ▸ Nat.lt_of_lt_of_le (by decide) hlow⟩
  · rename_i hpos
    have hlen : s.rxLen.toNat ≠ 0 := fun h => hpos (BitVec.eq_of_toNat_eq h)
    have hopen := hs.frame_open hactive
    have hlegal := hs.rxCount_legal
    omega

theorem withByteStored_rxLen_toNat {s : State} (hroom : s.rxLen.toNat < 30) :
    s.withByteStored.rxLen.toNat = s.rxLen.toNat + 1 :=
  byte_succ_toNat (Nat.lt_trans hroom (by decide))

theorem withByteStored_rxBuf_legal {s : State} (hs : s.Inv) (hroom : s.rxLen.toNat < 30) :
    ∀ x ∈ s.withByteStored.rxBuf, x.1 < 30 := by
  intro x hx
  rcases Memory.mem_write hx with rfl | hx
  · exact hroom
  · exact hs.rxBuf_legal x hx

/-- A store that leaves the frame open keeps the invariants. -/
theorem withByteStored_inv {s : State} (hs : s.Inv) (hactive : s.rxActive = true)
    (hfirst : s.rxLen = 0 → badCount s.windowByte = false) (hroom : s.rxLen.toNat < 30)
    (hmore : s.rxLen + 1 ≠ s.awaitedCount) : s.withByteStored.Inv := by
  obtain ⟨hlow, hhigh, hlt⟩ := awaitedCount_legal hs hactive hfirst
  have hlen := withByteStored_rxLen_toNat hroom
  have hopen : s.withByteStored.rxLen.toNat < s.awaitedCount.toNat := by
    have : s.withByteStored.rxLen.toNat ≠ s.awaitedCount.toNat := fun h => hmore (BitVec.eq_of_toNat_eq h)
    omega
  exact
    { hs with
      rxLen_le_rxCount := hopen.le
      rxCount_legal := .inr ⟨hlow, hhigh⟩
      frame_open := fun _ => .inr hopen
      message := fun hdone => absurd (hactive.symm.trans (hs.message hdone).1) nofun
      rxBitCount_legal := Nat.zero_le _
      rxBuf_wf := storeByte_rxBuf_wf hs.rxBuf_wf _
      rxBuf_legal := withByteStored_rxBuf_legal hs hroom }

/-- The last byte of a frame keeps the invariants: the message it completes is `rx_count` bytes long. -/
theorem completeFrame_inv {s : State} (hs : s.Inv) (hactive : s.rxActive = true)
    (hfirst : s.rxLen = 0 → badCount s.windowByte = false) (hroom : s.rxLen.toNat < 30)
    (hlast : s.rxLen + 1 = s.awaitedCount) : (completeFrame s.withByteStored).Inv := by
  obtain ⟨hlow, hhigh, _⟩ := awaitedCount_legal hs hactive hfirst
  exact
    { hs with
      rxLen_le_rxCount := (congrArg BitVec.toNat hlast).le
      rxCount_legal := .inr ⟨hlow, hhigh⟩
      frame_open := nofun
      message := fun _ => ⟨rfl, hlast, hlow.trans_eq (congrArg BitVec.toNat hlast.symm)⟩
      rxBitCount_legal := Nat.zero_le _
      rxBuf_wf := storeByte_rxBuf_wf hs.rxBuf_wf _
      rxBuf_legal := withByteStored_rxBuf_legal hs hroom }

theorem startDetected_inv {s : State} (hs : s.Inv) : (startDetected s).Inv :=
  { hs with
    rxLen_le_rxCount := Nat.zero_le _
    frame_open := fun _ => .inl rfl
    message := nofun
    rxBitCount_legal := Nat.zero_le _ }

theorem countAbort_inv {s : State} (hs : s.Inv) : (countAbort { s with rxBitCount := 0 }).Inv :=
  { hs with
    frame_open := nofun
    message := fun hdone => ⟨rfl, (hs.message hdone).2⟩
    rxBitCount_legal := Nat.zero_le _ }

theorem rxBitCount_succ_inv {s : State} (hs : s.Inv) (hcount : s.rxBitCount + 1 ≠ 12) :
    ({ s with rxBitCount := s.rxBitCount + 1 } : State).Inv :=
  { hs with
    rxBitCount_legal := by
      have hlegal := hs.rxBitCount_legal
      show (s.rxBitCount + 1).toNat ≤ 11
      bv_omega }

/-- Every recovered bit keeps the invariants. -/
theorem rxBit_inv {s t : State} (h : rxBit s = .next t) (hs : s.Inv) : t.Inv := by
  cases rxBit_effect h with
  | startFound _ _ => exact startDetected_inv hs
  | searched _ _ => exact hs
  | bitCounted _ hcount => exact rxBitCount_succ_inv hs hcount
  | frameAborted _ _ _ => exact countAbort_inv hs
  | frameCompleted hactive _ hfirst hroom hlast => exact completeFrame_inv hs hactive hfirst hroom hlast
  | byteStored hactive _ hfirst hroom hmore => exact withByteStored_inv hs hactive hfirst hroom hmore

/-- Every tick keeps the invariants. -/
theorem tick_inv {x : Bool} {s t : State} (h : tick x s = .next t) (hs : s.Inv) : t.Inv := by
  have sampled : ({ s with rxSample := x } : State).Inv := { hs with }
  have counted : ({ s with txSample := 1 } : State).Inv := { hs with }
  cases tick_effect h with
  | quiescent _ _ => exact hs
  | sampleCounted _ _ => exact { hs with }
  | frameEnded _ _ _ => exact endOfFrame_inv counted
  | bitSent _ _ hmore _ => exact sendBit_inv counted hmore
  | rampAdvanced _ _ hramp => exact advanceRamp_inv sampled hramp
  | bitRecovered _ _ hramp hbit => exact rxBit_inv hbit (wrapRamp_inv sampled hramp)

/-- Settles O45: a step is a command, a tick, a reset or a move of the interface, and each keeps the invariants. -/
theorem stepKeepsInvariants : Obligations.StepKeepsInvariants := by
  intro s t hs h
  cases step_effect h with
  | heldSend d _ _ hexec => exact exec_inv hexec { hs with held_legal := fun _ hd => nomatch hd }
  | ticked x q _ htick => exact tick_inv htick { hs with }
  | command q i rest _ _ _ hexec => exact exec_inv hexec { hs with }
  | wasReset q _ => exact resetBlock_inv hs.held_legal
  | interfaceOnly q p r => exact { hs with }

end Sys2Proof.Machine

end

/-! Which steps write which register. -/

section

namespace Sys2Proof.Machine

/-! ### The parameters and the flags the host writes -/

/-- Settles O51: neither a command nor a tick writes the parameters, and a reset leaves them. -/
theorem parametersNeverChange : Obligations.ParametersNeverChange := by
  intro s t h
  cases step_effect h with
  | heldSend d _ _ hexec => rw [exec_frame hexec]
  | ticked x q _ htick => rw [tick_frame htick]
  | command q i rest _ _ _ hexec => rw [exec_frame hexec]
  | wasReset q _ => rfl
  | interfaceOnly q p r => rfl

/-- Settles O52: of the commands only RX_START and RX_STOP write `rx_enabled`, and no tick does. -/
theorem onlyRxCommandsWriteEnable : Obligations.OnlyRxCommandsWriteEnable := by
  intro s t h hne
  cases step_effect h with
  | heldSend d _ _ hexec => cases exec_effect hexec <;> exact absurd rfl hne
  | ticked x q _ htick => exact absurd (by rw [tick_frame htick]) hne
  | command q i rest hturn _ hdecode hexec =>
    refine .inr ⟨q, i, rest, hturn, hdecode, ?_⟩
    cases exec_effect hexec with
    | rxStarted imm8 => exact .inl ⟨rfl, imm8, rfl⟩
    | rxStopped imm8 => exact .inr ⟨rfl, imm8, rfl⟩
    | _ => exact absurd rfl hne
  | wasReset q hturn => exact .inl ⟨q, hturn⟩
  | interfaceOnly q p r => exact absurd rfl hne

theorem invOperand_eq_decide (inv : BitVec 1) : invOperand inv = decide (inv = 1) := by
  revert inv
  decide

/-- Settles O53: of the commands only SET_PTT_INVERTED writes the polarity, and no tick does. -/
theorem onlySetPttInvertedWritesPolarity : Obligations.OnlySetPttInvertedWritesPolarity := by
  intro s t h hne
  cases step_effect h with
  | heldSend d _ _ hexec => cases exec_effect hexec <;> exact absurd rfl hne
  | ticked x q _ htick => exact absurd (by rw [tick_frame htick]) hne
  | command q i rest hturn _ hdecode hexec =>
    cases exec_effect hexec with
    | polaritySet ignored inv =>
      exact .inr ⟨q, ignored, inv, rest, hturn, hdecode, invOperand_eq_decide inv, rfl⟩
    | _ => exact absurd rfl hne
  | wasReset q hturn => exact .inl ⟨q, hturn⟩
  | interfaceOnly q p r => exact absurd rfl hne

/-! ### PTT -/

/-- A command keeps PTT at the transmit state, unless it writes another polarity. -/
theorem exec_pttFollows {i : Instr} {s t : State} (h : exec i s = .next t) (hs : s.PttFollows) :
    t.PttFollows ∨ (t.pttInverted ≠ s.pttInverted ∧ t.pttOut = s.pttOut ∧ t.txActive = s.txActive) := by
  cases exec_effect h with
  | polaritySet ignored inv =>
    by_cases hsame : invOperand inv = s.pttInverted
    · exact .inl (hsame ▸ hs)
    · exact .inr ⟨hsame, rfl, rfl⟩
  | sendAccepted _ _ => exact .inl rfl
  | txStarted _ => exact .inl rfl
  | txStopped _ => exact .inl rfl
  | _ => exact .inl hs

/-- A tick keeps PTT at the transmit state: the end of a frame moves both, and no other tick moves either. -/
theorem tick_pttFollows {x : Bool} {s t : State} (h : tick x s = .next t) (hs : s.PttFollows) : t.PttFollows := by
  cases tick_effect h with
  | frameEnded _ _ _ => rfl
  | bitRecovered _ _ _ hbit =>
    rw [rxBit_frame hbit]
    simpa [State.PttFollows, State.atWrap] using hs
  | _ => exact hs

/-- Settles O47: what moves the transmit state drives the line with it, and a new polarity moves neither. -/
theorem pttFollowsTransmitState : Obligations.PttFollowsTransmitState := by
  intro s t hs h
  cases step_effect h with
  | heldSend d _ _ hexec => exact (exec_pttFollows hexec hs :)
  | ticked x q _ htick => exact .inl (tick_pttFollows htick hs)
  | command q i rest _ _ _ hexec => exact (exec_pttFollows hexec hs :)
  | wasReset q _ => exact .inl rfl
  | interfaceOnly q p r => exact .inl hs

/-! ### The pending-message flag -/

/-- Settles O55: of the commands only GET_MESSAGE writes `rx_done`, and of the recovered bits a completion and a start
detection. -/
theorem pendingFlagTransitions : Obligations.PendingFlagTransitions := by
  intro s t h hne
  cases step_effect h with
  | heldSend d _ _ hexec => cases exec_effect hexec <;> exact absurd rfl hne
  | command q i rest hturn _ hdecode hexec =>
    cases exec_effect hexec with
    | messageTaken maxLen _ _ _ => exact .inr (.inr (.inr ⟨rfl, q, maxLen, rest, hturn, hdecode⟩))
    | _ => exact absurd rfl hne
  | ticked x q hturn htick =>
    cases tick_effect htick with
    | bitRecovered henabled htx _ hbit =>
      cases rxBit_effect hbit with
      | frameCompleted hactive _ _ _ hlast =>
        exact .inr (.inl ⟨rfl, ⟨x, q, hturn⟩, henabled, htx, hactive, rfl, hlast, by simp⟩)
      | startFound hidle hbits =>
        exact .inr (.inr (.inl ⟨rfl, ⟨x, q, hturn⟩, henabled, htx, hidle, rfl, hbits, rfl⟩))
      | _ => exact absurd (by simp) hne
    | _ => exact absurd rfl hne
  | wasReset q hturn => exact .inl ⟨q, hturn⟩
  | interfaceOnly q p r => exact absurd rfl hne

/-! ### The event counters -/

/-- A step that changes an event counter is a reset or a tick. -/
theorem counter_change_is_reset_or_tick {s t : State} (h : step s = .next t)
    (hne : ¬ (t.txMsgCount = s.txMsgCount ∧ t.rxGood = s.rxGood ∧ t.rxBad = s.rxBad)) :
    (∃ q, s.schedule = .reset :: q) ∨
    ∃ x q, s.schedule = .tick x :: q ∧ TickEffect x { s with schedule := q } t := by
  have exec_keeps {i : Instr} {s₁ : State} (hexec : exec i s₁ = .next t) :
      t.txMsgCount = s₁.txMsgCount ∧ t.rxGood = s₁.rxGood ∧ t.rxBad = s₁.rxBad := by
    rw [exec_frame hexec]
    exact ⟨rfl, rfl, rfl⟩
  cases step_effect h with
  | heldSend d _ _ hexec => exact absurd (exec_keeps hexec) hne
  | ticked x q hturn htick => exact .inr ⟨x, q, hturn, tick_effect htick⟩
  | command q i rest _ _ _ hexec => exact absurd (exec_keeps hexec) hne
  | wasReset q hturn => exact .inl ⟨q, hturn⟩
  | interfaceOnly q p r => exact absurd ⟨rfl, rfl, rfl⟩ hne

/-- Settles O56: of the ticks only the end of a frame writes `tx_msg_count`. -/
theorem sentCounterCountsFrameEnds : Obligations.SentCounterCountsFrameEnds := by
  intro s t h hne
  rcases counter_change_is_reset_or_tick h fun he => hne he.1 with hreset | ⟨x, q, hturn, htick⟩
  · exact .inl hreset
  · cases htick with
    | frameEnded hactive hsample hend =>
      exact .inr ⟨⟨x, q, hturn⟩, hactive, hsample, hend, rfl, by simp⟩
    | bitRecovered _ _ _ hbit => exact absurd (by rw [rxBit_frame hbit]; rfl) hne
    | _ => exact absurd rfl hne

/-- Settles O57: of the recovered bits only a completion writes `rx_good`. -/
theorem goodCounterCountsCompletions : Obligations.GoodCounterCountsCompletions := by
  intro s t h hne
  rcases counter_change_is_reset_or_tick h fun he => hne he.2.1 with hreset | ⟨x, q, hturn, htick⟩
  · exact .inl hreset
  · cases htick with
    | bitRecovered _ _ _ hbit =>
      cases rxBit_effect hbit with
      | frameCompleted hactive _ _ _ hlast =>
        exact .inr ⟨⟨x, q, hturn⟩, hactive, rfl, rfl, hlast, by simp, by simp⟩
      | _ => exact absurd (by simp) hne
    | _ => exact absurd rfl hne

/-- Settles O58: of the recovered bits only an abort writes `rx_bad`, and it stores nothing. -/
theorem badCounterCountsAborts : Obligations.BadCounterCountsAborts := by
  intro s t h hne
  rcases counter_change_is_reset_or_tick h fun he => hne he.2.2 with hreset | ⟨x, q, hturn, htick⟩
  · exact .inl hreset
  · cases htick with
    | bitRecovered _ _ _ hbit =>
      cases rxBit_effect hbit with
      | frameAborted hactive _ hstrict =>
        exact .inr ⟨⟨x, q, hturn⟩, hactive, rfl, by simpa [State.rxByte] using hstrict⟩
      | _ => exact absurd (by simp) hne
    | _ => exact absurd rfl hne

end Sys2Proof.Machine

end

/-! Where the model stops. -/

section

namespace Sys2Proof.Machine

/-! ### The transmitter past the end of `TxBuf` -/

/-- A tick while a frame is on the air is a transmit step, whatever `rx_enabled` and the sample
(47_tick.md R240). -/
theorem tick_eq_txStep {s : State} (hactive : s.txActive = true) (x : Bool) : tick x s = txStep s := by
  simp [tick, State.rxRuns, hactive]

/-- A transmit step at sample 0 with frame left emits a bit (43_tx_state_machine.md R153). -/
theorem txStep_eq_emitBit {s : State} (hsample : s.txSample = 0) (hmore : s.txIndex < s.txLen) :
    txStep s = emitBit { s with txSample := s.txSample + 1 } := by
  have hnotEnd : ¬ s.txLen ≤ s.txIndex := BitVec.not_le.mpr hmore
  rw [txStep, if_pos hsample, txAdvance, if_neg hnotEnd]

theorem emitBit_fault {s : State} (hindex : 68 ≤ s.txIndex.toNat) :
    emitBit s = .fault (.txBufIndex s.txIndex.toNat) :=
  if_neg (Nat.not_lt.mpr hindex)

/-! ### The receiver past the end of `RxBuf` -/

theorem acceptByte_fault {s : State} (hlen : 30 ≤ s.rxLen.toNat) (b : Byte) :
    acceptByte b s = .fault (.rxBufIndex s.rxLen.toNat) :=
  if_neg (Nat.not_lt.mpr hlen)

/-! ### GET_MESSAGE of a pending message whose length is not legal -/

theorem execGetMessage_fault_of_short {s : State} (hdone : s.rxDone = true) (hshort : s.rxLen.toNat < 3) (m : Byte) :
    execGetMessage m s = .fault (.rxLenTooShort s.rxLen.toNat) := by
  rw [execGetMessage, if_pos hdone, if_pos hshort]

theorem execGetMessage_fault_of_long {s : State} (hdone : s.rxDone = true) (hlong : 30 < s.rxLen.toNat) (m : Byte) :
    execGetMessage m s = .fault (.rxBufIndex (s.rxLen.toNat - 1)) := by
  have hnotShort : ¬ s.rxLen.toNat < 3 := by omega
  rw [execGetMessage, if_pos hdone, if_neg hnotShort, if_pos hlong]

/-- Settles O24: `emit_bit` and `store` fault at an index past their buffer's end, GET_MESSAGE at both illegal lengths. -/
theorem unformedIndicesFault : Obligations.UnformedIndicesFault := by
  refine ⟨?_, ?_, ?_, ?_⟩
  · intro x s hactive hsample hmore hindex
    rw [tick_eq_txStep hactive, txStep_eq_emitBit hsample hmore]
    exact emitBit_fault hindex
  · exact fun b _ hlen => acceptByte_fault hlen b
  · exact fun m _ hdone hlong => execGetMessage_fault_of_long hdone hlong m
  · exact fun m _ hdone hshort => execGetMessage_fault_of_short hdone hshort m

end Sys2Proof.Machine

end

/-! The encoding: each command's bytes and the one reading each byte sequence has. -/

section

namespace Sys2Proof

/-! ### The opcode map -/

/-- The `op` byte of an opcode's row of the opcode map (30_encoding.md R81). -/
def Opcode.byte : Opcode → Byte
  | .send => 0x01
  | .txStart => 0x02
  | .txStop => 0x03
  | .rxStart => 0x04
  | .rxStop => 0x05
  | .haveMessage => 0x06
  | .getMessage => 0x07
  | .setPttInverted => 0x08
  | .readStatus => 0x09

@[simp] theorem opcodeOf_byte (o : Opcode) : opcodeOf o.byte = some o := by
  cases o <;> rfl

theorem byte_eq_of_mem_opcodeTable : ∀ row ∈ opcodeTable, row.1 = row.2.byte := by decide

theorem eq_byte_of_opcodeOf {op : Byte} {o : Opcode} (h : opcodeOf op = some o) : op = o.byte := by
  obtain ⟨row, hfind, rfl⟩ := Option.map_eq_some_iff.mp h
  have hop : row.1 = op := by simpa using List.find?_some hfind
  exact hop ▸ byte_eq_of_mem_opcodeTable row (List.mem_of_find?_eq_some hfind)

/-! ### The decoder and the encoder are inverse -/

/-- A word whose `op` names an opcode is read as that command. -/
@[simp] theorem decode_byte_cons (o : Opcode) (imm8 : Byte) (rest : List Byte) :
    decode (o.byte :: imm8 :: rest) = decodeOperands o imm8 rest := by
  simp [decode]

/-- What is decoded begins with a word that names its opcode. -/
theorem exists_word_of_decode {bs rest : List Byte} {i : Instr} (h : decode bs = .ok (i, rest)) :
    ∃ o imm8 tail, bs = o.byte :: imm8 :: tail ∧ decodeOperands o imm8 tail = .ok (i, rest) := by
  unfold decode at h
  split at h
  · rename_i op imm8 tail
    split at h
    · rename_i o ho
      exact ⟨o, imm8, tail, by rw [eq_byte_of_opcodeOf ho], h⟩
    · cases h
  · cases h

/-- SEND reads its data back from the front of the bytes, for every length its operand can say (30_encoding.md R82). -/
theorem decodeOperands_send {data : List Byte} (h : data.length < 256) (rest : List Byte) :
    decodeOperands .send (BitVec.ofNat 8 data.length) (data ++ rest) = .ok (.send data, rest) := by
  have hlen : (BitVec.ofNat 8 data.length).toNat = data.length := Nat.mod_eq_of_lt h
  simp [decodeOperands, hlen]

theorem append_extractLsb'_polarity (imm8 : Byte) :
    (imm8.extractLsb' 1 7 ++ imm8.extractLsb' 0 1 : Byte) = imm8 :=
  (BitVec.extractLsb'_append_extractLsb'_eq_extractLsb' (start₁ := 0) (len₁ := 1) rfl).trans
    BitVec.extractLsb'_eq_self

/-- Settles O1: the word's `op` names the opcode, and its operands are read back one form at a time. -/
theorem decodeReadsBackEncode : Obligations.DecodeReadsBackEncode := by
  intro i rest hwf
  cases i with
  | send data =>
    have hlen : data.length < 256 := by simpa [Instr.wellFormed] using hwf
    exact (decode_byte_cons .send _ _).trans (decodeOperands_send hlen rest)
  | txStart imm8 => exact decode_byte_cons .txStart imm8 rest
  | txStop imm8 => exact decode_byte_cons .txStop imm8 rest
  | rxStart imm8 => exact decode_byte_cons .rxStart imm8 rest
  | rxStop imm8 => exact decode_byte_cons .rxStop imm8 rest
  | haveMessage imm8 => exact decode_byte_cons .haveMessage imm8 rest
  | getMessage maxLen => exact decode_byte_cons .getMessage maxLen rest
  | setPttInverted ignored inv =>
    have hread := decode_byte_cons .setPttInverted (ignored ++ inv) rest
    rwa [decodeOperands, BitVec.extractLsb'_append_eq_left, BitVec.extractLsb'_append_eq_right] at hread
  | readStatus sel => exact decode_byte_cons .readStatus sel rest

/-- The command read from a word and the bytes after it is well-formed and is encoded as they are. -/
theorem encode_of_decodeOperands {o : Opcode} {imm8 : Byte} {tail rest : List Byte} {i : Instr}
    (h : decodeOperands o imm8 tail = .ok (i, rest)) :
    i.wellFormed = true ∧ encode i ++ rest = o.byte :: imm8 :: tail := by
  cases o with
  | send =>
    rw [decodeOperands] at h
    split at h
    · rename_i hlen
      cases h
      have htake : (tail.take imm8.toNat).length = imm8.toNat := List.length_take_of_le hlen
      constructor
      · simpa [Instr.wellFormed, htake] using imm8.isLt
      · simp [encode, Opcode.byte, htake]
    · cases h
  | setPttInverted =>
    cases h
    exact ⟨rfl, by rw [encode, append_extractLsb'_polarity]; rfl⟩
  | _ => cases h; exact ⟨rfl, rfl⟩

/-- Settles O2: the word names its opcode, and each opcode's operands are encoded as they are read. -/
theorem decodedBytesReencode : Obligations.DecodedBytesReencode := by
  intro bs i rest h
  obtain ⟨o, imm8, tail, rfl, hread⟩ := exists_word_of_decode h
  exact encode_of_decodeOperands hread

/-- Settles O3: the decoder evaluated on each word. -/
theorem spelledWordsDecode : Obligations.SpelledWordsDecode := by
  unfold Obligations.SpelledWordsDecode
  decide

/-! ### A table word -/

/-- A well-formed command is as long as its word says (30_encoding.md R86). -/
theorem commandLength_encode {i : Instr} (hwf : i.wellFormed = true) :
    commandLength (encode i) = (encode i).length := by
  cases i with
  | send data => exact (Laws.Layout.send data hwf).2
  | _ => rfl

/-- The word alone says how long a command is, whatever follows it. -/
theorem commandLength_encode_append (i : Instr) (rest : List Byte) :
    commandLength (encode i ++ rest) = commandLength (encode i) := by
  cases i <;> rfl

theorem two_le_commandLength (bs : List Byte) : 2 ≤ commandLength bs := by
  unfold commandLength
  split
  · split <;> omega
  · exact le_rfl

/-- A table word has as many bytes as its first two say (log entry 19). -/
theorem commandLength_tableBytes (nbits w : Nat) :
    commandLength (tableBytes nbits w) = (tableBytes nbits w).length := by
  unfold tableBytes
  generalize tableByte (w % 2 ^ nbits) = byte
  obtain ⟨n, hn⟩ := Nat.exists_eq_add_of_le' (two_le_commandLength [byte 0, byte 1])
  simp only [hn, List.range_succ_eq_map, List.map_cons, List.length_cons, List.length_map, List.length_range]
  exact hn

/-- The decoder reads all of a table word: its bytes are the command's, with none left over. -/
theorem encode_of_decodeTableWord {nbits w : Nat} {i : Instr} (h : decodeTableWord nbits w = some i) :
    i.wellFormed = true ∧ tableBytes nbits w = encode i := by
  unfold decodeTableWord at h
  split at h
  · rename_i j rest hread
    cases h
    obtain ⟨hwf, hbytes⟩ := decodedBytesReencode _ _ _ hread
    have hlen : (encode i).length = (encode i ++ rest).length := by
      calc (encode i).length = commandLength (encode i ++ rest) := by
            rw [commandLength_encode_append, commandLength_encode hwf]
        _ = (encode i ++ rest).length := by rw [hbytes, commandLength_tableBytes]
    have hrest : rest = [] := List.length_eq_zero_iff.mp (by simpa using hlen)
    exact ⟨hwf, by rw [← hbytes, hrest, List.append_nil]⟩
  · cases h

end Sys2Proof

namespace Sys2Proof.Machine

/-- A turn of a host agent that is not stalled runs the command at the front of its port
(46_host_commands.md R210). -/
theorem step_eq_exec_of_decode {s : State} {q : List Turn} {i : Instr} {rest : List Byte} (hfree : s.held = none)
    (hturn : s.schedule = .host :: q) (hdecode : decode s.port = .ok (i, rest)) :
    step s = exec i { s with schedule := q, port := rest } := by
  simp [step, nextStep, scheduledStep, takeTurn, hostTurn, hfree, hturn, hdecode]

/-- Settles O8: the table word is the encoding of its command, which the host turn reads back from the port. -/
theorem fetchWordRunsNext : Obligations.FetchWordRunsNext := by
  intro s nbits w i h
  obtain ⟨hwf, hbytes⟩ := encode_of_decodeTableWord h
  have hdecode : decode (s.withFetchWord nbits w).port = .ok (i, s.port) := by
    rw [State.withFetchWord, hbytes]
    exact decodeReadsBackEncode i s.port hwf
  exact step_eq_exec_of_decode rfl rfl hdecode

end Sys2Proof.Machine

end

/-! A frame on the line, tick by tick. -/

section

namespace Sys2Proof.Machine

/-! ### The line as a list of samples -/

/-- Where all the parts of a list have `m` elements, element `n` of the whole is in part `n / m`. -/
theorem getElem?_flatMap_of_length {α β : Type} {f : α → List β} {m : Nat} (hm : 0 < m)
    (hf : ∀ a, (f a).length = m) (l : List α) (n : Nat) : (l.flatMap f)[n]? = l[n / m]?.bind fun a => (f a)[n % m]? := by
  induction l generalizing n with
  | nil => simp
  | cons a l ih =>
    rw [List.flatMap_cons]
    rcases Nat.lt_or_ge n m with hn | hn
    · rw [List.getElem?_append_left (by rwa [hf]), Nat.div_eq_of_lt hn, Nat.mod_eq_of_lt hn]
      rfl
    · rw [List.getElem?_append_right (by rwa [hf]), hf, ih, Nat.mod_eq_sub_mod hn, Nat.div_eq_sub_div hm hn]
      rfl

/-- Sample `n` of the line is bit `n / 8` of the frame: bit `n / 8 % 6` of its byte `n / 8 / 6` (30_encoding.md R90). -/
theorem lineSamples_wireBits_getElem? (bytes : List Byte) (n : Nat) :
    (lineSamples (wireBits bytes))[n]? = bytes[n / 8 / 6]?.map fun b => b.getLsbD (n / 8 % 6) := by
  have hsample : n % 8 < 8 := Nat.mod_lt _ (by decide)
  have hbit : n / 8 % 6 < 6 := Nat.mod_lt _ (by decide)
  rw [lineSamples, getElem?_flatMap_of_length (m := 8) (by decide) (by simp),
    wireBits, getElem?_flatMap_of_length (m := 6) (by decide) (by simp)]
  cases bytes[n / 8 / 6]? with
  | none => rfl
  | some b => simp [-List.reduceReplicate, hsample, hbit]

@[simp] theorem lineSamples_length (bits : List Bool) : (lineSamples bits).length = 8 * bits.length := by
  simp [lineSamples, Nat.mul_comm]

@[simp] theorem wireBits_length (bytes : List Byte) : (wireBits bytes).length = 6 * bytes.length := by
  simp [wireBits, Nat.mul_comm]

/-! ### The cursor -/

/-- Bit `j` of what stands in `TxBuf`, in transmission order (20_memory.md R63; 43_tx_state_machine.md R154). -/
def State.frameBit (s : State) (j : Nat) : Bool := (s.txByte (j / 6)).getLsbD (j % 6)

/-- The state `k` ticks after its transmitter started from `s`: `(k + 7) / 8` bits have been emitted, the last one
standing on `tx_out` (43_tx_state_machine.md R156). -/
def State.onAir (s : State) (k : Nat) : State :=
  { s with
    txIndex := BitVec.ofNat 8 ((k + 7) / 8 / 6)
    txBit := BitVec.ofNat 3 ((k + 7) / 8 % 6)
    txSample := BitVec.ofNat 3 k
    txOut := if k = 0 then s.txOut else s.frameBit ((k - 1) / 8) }

theorem onAir_zero {s : State} (hindex : s.txIndex = 0) (hbit : s.txBit = 0) (hsample : s.txSample = 0) :
    s.onAir 0 = s := by
  cases s
  cases hindex
  cases hbit
  cases hsample
  rfl

theorem onAir_txSample_eq_zero_iff (s : State) (k : Nat) : (s.onAir k).txSample = 0 ↔ k % 8 = 0 := by
  rw [← BitVec.toNat_inj]
  rfl

/-- In the other seven ticks of a bit the counter alone moves (43_tx_state_machine.md R153). -/
theorem txStep_onAir_count {s : State} {k : Nat} (hk : k % 8 ≠ 0) : txStep (s.onAir k) = .next (s.onAir (k + 1)) := by
  have hemitted : (k + 1 + 7) / 8 = (k + 7) / 8 := by omega
  have hout : k / 8 = (k - 1) / 8 := by omega
  have hpos : k ≠ 0 := by omega
  rw [txStep, if_neg fun h => hk ((onAir_txSample_eq_zero_iff s k).mp h)]
  simp [State.onAir, hemitted, hout, hpos, BitVec.ofNat_add]

theorem onAir_txIndex_toNat (s : State) {j : Nat} (hj : j ≤ 6 * 68) : (s.onAir (8 * j)).txIndex.toNat = j / 6 := by
  rw [State.onAir, BitVec.toNat_ofNat]
  omega

theorem onAir_txBit_toNat (s : State) (j : Nat) : (s.onAir (8 * j)).txBit.toNat = j % 6 := by
  rw [State.onAir, BitVec.toNat_ofNat]
  omega

theorem onAir_nextTxBit (s : State) {j : Nat} (hj : j ≤ 6 * 68) : (s.onAir (8 * j)).nextTxBit = s.frameBit j := by
  rw [State.nextTxBit, onAir_txIndex_toNat s hj, onAir_txBit_toNat]
  rfl

theorem onAir_atLastSymbolBit (s : State) (j : Nat) : (s.onAir (8 * j)).atLastSymbolBit = decide (j % 6 = 5) := by
  have hbit := onAir_txBit_toNat s j
  rw [State.atLastSymbolBit, Bool.beq_eq_decide_eq, decide_eq_decide, symbolBits]
  bv_omega

/-- emit_bit puts the bit at the cursor on the line and moves the cursor by one bit (43_tx_state_machine.md R154). -/
theorem sendBit_onAir (s : State) {j : Nat} (hj : j < 6 * 68) :
    sendBit { s.onAir (8 * j) with txSample := 1 } = s.onAir (8 * j + 1) := by
  have hout : ({ s.onAir (8 * j) with txSample := 1 } : State).nextTxBit = s.frameBit j := onAir_nextTxBit s hj.le
  have hlast : ({ s.onAir (8 * j) with txSample := 1 } : State).atLastSymbolBit = decide (j % 6 = 5) :=
    onAir_atLastSymbolBit s j
  have hnow : (8 * j + 7) / 8 = j := by omega
  have hnext : (8 * j + 1 + 7) / 8 = j + 1 := by omega
  rw [sendBit, hout, hlast]
  by_cases h : j % 6 = 5
  · have hbit : (j + 1) % 6 = 0 := by omega
    have hindex : (j + 1) / 6 = j / 6 + 1 := by omega
    simp [State.onAir, h, hnow, hnext, hbit, hindex, BitVec.ofNat_add, BitVec.ofNat_mul]
  · have hbit : (j + 1) % 6 = j % 6 + 1 := by omega
    have hindex : (j + 1) / 6 = j / 6 := by omega
    simp [State.onAir, h, hnow, hnext, hbit, hindex, BitVec.ofNat_add, BitVec.ofNat_mul]

/-! ### The ticks of a frame -/

/-- While bits are left a tick leads from one state of the frame to the next, whatever its sample. -/
theorem tick_onAir {s : State} (hactive : s.txActive = true) (hlen : s.txLen.toNat ≤ 68) {k : Nat}
    (hk : k < 8 * (6 * s.txLen.toNat)) (x : Bool) : tick x (s.onAir k) = .next (s.onAir (k + 1)) := by
  rw [tick_eq_txStep (show (s.onAir k).txActive = true from hactive)]
  by_cases hphase : k % 8 = 0
  · obtain ⟨j, rfl⟩ := Nat.dvd_of_mod_eq_zero hphase
    have hindex := onAir_txIndex_toNat s (j := j) (by omega)
    have hsample := (onAir_txSample_eq_zero_iff s (8 * j)).mpr hphase
    have hmore : (s.onAir (8 * j)).txIndex < (s.onAir (8 * j)).txLen := by
      rw [BitVec.lt_def, hindex]
      exact (by omega : j / 6 < s.txLen.toNat)
    have hroom : (s.onAir (8 * j)).txIndex.toNat < txBufLen := by
      rw [hindex, txBufLen]
      omega
    rw [txStep_eq_emitBit hsample hmore, hsample, emitBit, if_pos hroom, ← sendBit_onAir s (j := j) (by omega)]
    rfl
  · exact txStep_onAir_count hphase

theorem runTicks_cons {x : Bool} {s t : State} (h : tick x s = .next t) (xs : List Bool) :
    runTicks (x :: xs) s = runTicks xs t := by
  rw [runTicks, h]

theorem runTicks_onAir {s : State} (hactive : s.txActive = true) (hlen : s.txLen.toNat ≤ 68) (xs : List Bool) {k : Nat}
    (hk : k + xs.length ≤ 8 * (6 * s.txLen.toNat)) : runTicks xs (s.onAir k) = .next (s.onAir (k + xs.length)) := by
  induction xs generalizing k with
  | nil => rfl
  | cons x xs ih =>
    rw [List.length_cons] at hk ⊢
    rw [runTicks_cons (tick_onAir hactive hlen (by omega) x), ih (by omega), Nat.add_right_comm, Nat.add_assoc]

/-- `k` ticks after the start of a frame, whatever their samples (43_tx_state_machine.md R156). -/
theorem runTicks_frame {s : State} (hactive : s.txActive = true) (hlen : s.txLen.toNat ≤ 68) (hstart : s.onAir 0 = s)
    {xs : List Bool} (hxs : xs.length ≤ 8 * (6 * s.txLen.toNat)) : runTicks xs s = .next (s.onAir xs.length) := by
  have hrun := runTicks_onAir hactive hlen xs (k := 0) (by omega)
  rwa [hstart, Nat.zero_add] at hrun

/-- A transmit step at sample 0 with no frame left ends the frame (43_tx_state_machine.md R153). -/
theorem txStep_eq_endOfFrame {s : State} (hsample : s.txSample = 0) (hend : s.txLen ≤ s.txIndex) :
    txStep s = .next (endOfFrame { s with txSample := s.txSample + 1 }) := by
  rw [txStep, if_pos hsample, txAdvance, if_pos hend]

/-- Where no bit is left the tick ends the frame (43_tx_state_machine.md R153, R155). -/
theorem tick_onAir_end {s : State} (hactive : s.txActive = true) (hlen : s.txLen.toNat ≤ 68) (x : Bool) :
    tick x (s.onAir (8 * (6 * s.txLen.toNat))) =
      .next (endOfFrame { s.onAir (8 * (6 * s.txLen.toNat)) with txSample := 1 }) := by
  have hsample := (onAir_txSample_eq_zero_iff s (8 * (6 * s.txLen.toNat))).mpr (Nat.mul_mod_right 8 _)
  have hend : (s.onAir (8 * (6 * s.txLen.toNat))).txLen ≤ (s.onAir (8 * (6 * s.txLen.toNat))).txIndex := by
    rw [BitVec.le_def, onAir_txIndex_toNat s (by omega), Nat.mul_div_cancel_left _ (by decide)]
    exact le_rfl
  rw [tick_eq_txStep (show (s.onAir _).txActive = true from hactive), txStep_eq_endOfFrame hsample hend, hsample]
  rfl

theorem runTicks_append {xs : List Bool} {s t : State} (h : runTicks xs s = .next t) (ys : List Bool) :
    runTicks (xs ++ ys) s = runTicks ys t := by
  induction xs generalizing s with
  | nil => cases h; rfl
  | cons x xs ih =>
    rw [List.cons_append, runTicks]
    rw [runTicks] at h
    split at h
    · exact ih h
    · cases h
    · cases h

/-- The tick after a frame's last one ends it. -/
theorem runTicks_frame_end {s : State} (hactive : s.txActive = true) (hlen : s.txLen.toNat ≤ 68)
    (hstart : s.onAir 0 = s) {xs : List Bool} (hxs : xs.length = 8 * (6 * s.txLen.toNat) + 1) :
    runTicks xs s = .next (endOfFrame { s.onAir (8 * (6 * s.txLen.toNat)) with txSample := 1 }) := by
  obtain ⟨ys, x, rfl⟩ := (List.eq_nil_or_concat xs).resolve_left (List.ne_nil_of_length_eq_add_one hxs)
  have hys : ys.length = 8 * (6 * s.txLen.toNat) := by simpa using hxs
  have hrun := runTicks_frame hactive hlen hstart hys.le
  rw [List.concat_eq_append, runTicks_append hrun, hys, runTicks_cons (tick_onAir_end hactive hlen x)]
  rfl

/-! ### SEND -/

theorem execSend_of_idle {p : List Byte} {s : State} (hlen : p.length ≤ 27) (hidle : s.txActive = false) :
    execSend p s = .next (respond .ok [] (txStart (frameBuild p s))) := by
  rw [execSend, if_neg (Nat.not_lt.mpr hlen), if_neg (by simp [hidle])]

@[simp] theorem header_length : header.length = 8 := rfl

/-- `TxBuf` after FRAME_BUILD holds the header and then the frame's symbols (10_state.md R26; 42_frame_codec.md R131). -/
theorem getElem?_header_append_frameSymbols {s : State} (hwf : s.txBuf.wf) (p : List Byte) {i : Nat}
    (hi : i < 8 + 2 * (p.length + 3)) :
    (header ++ frameSymbols s.config p)[i]? = some ((frameBuild p s).txByte i) := by
  rw [frameBuild_txByte hwf]
  rcases Nat.lt_or_ge i 8 with hlow | hhigh
  · rw [if_neg (by omega), State.txByte, if_pos hlow, List.getElem?_append_left hlow, List.getElem?_eq_getElem hlow,
      List.getD_eq_getElem header 0 hlow]
  · rw [if_pos ⟨hhigh, hi⟩, List.getElem?_append_right hhigh, header_length]
    simp [show i - 8 < 2 * (p.length + 3) by omega]

/-- The frame's samples are the bits that `TxBuf` holds after FRAME_BUILD, eight to a bit. -/
theorem frame_line_getD {s : State} (hwf : s.txBuf.wf) (p : List Byte) {n : Nat}
    (hn : n / 8 / 6 < 8 + 2 * (p.length + 3)) :
    (lineSamples (wireBits (header ++ frameSymbols s.config p))).getD n false = (frameBuild p s).frameBit (n / 8) := by
  rw [List.getD_eq_getElem?_getD, lineSamples_wireBits_getElem?, getElem?_header_append_frameSymbols hwf p hn]
  rfl

/-- Settles O37: a frame's `tx_len` bytes stand on the line in `8 * (6 * tx_len)` ticks, and the next tick ends it. -/
theorem sendPutsFrameOnTheLine : Obligations.SendPutsFrameOnTheLine := by
  intro p s xs hlen hidle hwf line
  let s₁ := respond .ok [] (txStart (frameBuild p s))
  have htxLen : s₁.txLen.toNat = 8 + 2 * (p.length + 3) := frameBuild_txLen_toNat hlen s
  have hfits : s₁.txLen.toNat ≤ 68 := by omega
  have hstart : s₁.onAir 0 = s₁ := onAir_zero rfl rfl rfl
  have hline : line.length = 8 * (6 * s₁.txLen.toNat) := by simp [line, htxLen]
  refine ⟨s₁, execSend_of_idle hlen hidle, fun hpos hle => ?_, fun hend => ?_⟩
  · have hbit : line.getD (xs.length - 1) false = s₁.frameBit ((xs.length - 1) / 8) := frame_line_getD hwf p (by omega)
    have hout : (s₁.onAir xs.length).txOut = s₁.frameBit ((xs.length - 1) / 8) := if_neg (by omega)
    exact ⟨_, runTicks_frame rfl hfits hstart (hline ▸ hle), rfl, hout.trans hbit.symm, Bool.true_xor _⟩
  · exact ⟨_, runTicks_frame_end rfl hfits hstart (hline ▸ hend), rfl, rfl⟩

end Sys2Proof.Machine

end

/-! The symbol codec: decoding as the first match in the table. -/

section

namespace Sys2Proof.Machine

/-- The table has an entry for each nibble (40_symbol_codec.md R110 (a)). -/
theorem toNat_lt_symbolTable_length (c : Config) (n : Nibble) : n.toNat < c.symbolTable.toList.length := by
  simpa using n.isLt

/-- The nibbles are the table's indices, so every entry is some nibble's symbol. -/
theorem getElem_symbolTable_eq_enc6 (c : Config) {i : Nat} (hi : i < c.symbolTable.toList.length) :
    c.symbolTable.toList[i] = enc6 c (BitVec.ofNat 4 i) := by
  have hlt : i < 16 := by simpa using hi
  simp [enc6, Nat.mod_eq_of_lt hlt]

/-- Where a symbol stands in the table, DEC6 answers its first index (40_symbol_codec.md R112). -/
theorem dec6_of_first_match {c : Config} {s : Symbol} {n : Nibble} (hmatch : enc6 c n = s)
    (hfirst : ∀ m : Nibble, m < n → enc6 c m ≠ s) : dec6 c s = (n, true) := by
  have hfound : c.symbolTable.toList.findIdx? (· == s) = some n.toNat := by
    refine List.findIdx?_eq_some_iff_getElem.mpr ⟨toNat_lt_symbolTable_length c n, ?_, fun j hj => ?_⟩
    · rw [getElem_symbolTable_eq_enc6, BitVec.ofNat_toNat, BitVec.setWidth_eq, beq_iff_eq, hmatch]
    · rw [getElem_symbolTable_eq_enc6, beq_iff_eq]
      exact hfirst _ (by bv_omega)
  simp [dec6, hfound]

/-- Where a symbol does not stand in the table, DEC6 answers nibble 0 as invalid (40_symbol_codec.md R112). -/
theorem dec6_of_no_match {c : Config} {s : Symbol} (hnone : ∀ n : Nibble, enc6 c n ≠ s) : dec6 c s = (0, false) := by
  have hmissing : c.symbolTable.toList.findIdx? (· == s) = none := by
    refine List.findIdx?_eq_none_iff.mpr fun e he => ?_
    obtain ⟨i, hi, rfl⟩ := List.getElem_of_mem he
    rw [getElem_symbolTable_eq_enc6]
    exact beq_false_of_ne (hnone _)
  rw [dec6, hmissing]

/-- No entry of an admissible table stands in it twice (40_symbol_codec.md R110 (c)). -/
theorem enc6_injective {c : Config} (hc : c.Admissible) : Function.Injective (enc6 c) := by
  obtain ⟨_, hnodup⟩ := hc
  intro m n h
  have hm := toNat_lt_symbolTable_length c m
  have hn := toNat_lt_symbolTable_length c n
  exact BitVec.eq_of_toNat_eq ((hnodup.getElem_inj_iff (hi := hm) (hj := hn)).mp h)

/-- Settles O11: the search through the table ends at the first entry equal to the symbol, or finds none. -/
theorem decodeIsFirstMatch : Obligations.DecodeIsFirstMatch :=
  fun _ _ => ⟨fun _ => dec6_of_first_match, dec6_of_no_match⟩

/-- Settles O10: in an admissible table the nibble's own entry is the only match, so it is the first. -/
theorem symbolCodecRoundTrip : Obligations.SymbolCodecRoundTrip := by
  intro c n hc
  exact dec6_of_first_match rfl fun m hlt h => BitVec.ne_of_lt hlt (enc6_injective hc h)

end Sys2Proof.Machine

end

/-! The CRC as a linear map: XOR passes through its shifts, so a word's low byte and high byte go through them apart. -/

section

namespace Sys2Proof.Machine

/-! ### The shifts -/

/-- The polynomial comes in where the bit shifted out is 1 (41_crc.md R121). -/
def crcFeedback (low : Bool) : Crc := if low then crcPoly else 0

theorem crcFeedback_xor (p q : Bool) : crcFeedback (p ^^ q) = crcFeedback p ^^^ crcFeedback q := by
  revert p q
  decide

theorem crcShift_eq (c : Crc) : crcShift c = (c >>> 1) ^^^ crcFeedback (c.getLsbD 0) := by
  unfold crcShift crcFeedback
  split
  · rfl
  · rw [BitVec.ofNat_eq_ofNat, BitVec.xor_zero]

theorem crcShift_xor (a b : Crc) : crcShift (a ^^^ b) = crcShift a ^^^ crcShift b := by
  rw [crcShift_eq, crcShift_eq a, crcShift_eq b, BitVec.ushiftRight_xor_distrib, BitVec.getLsbD_xor, crcFeedback_xor]
  ac_rfl

theorem crcShifts_xor (k : Nat) (a b : Crc) : crcShifts k (a ^^^ b) = crcShifts k a ^^^ crcShifts k b := by
  induction k generalizing a b with
  | zero => rfl
  | succ k ih => rw [crcShifts, crcShift_xor, ih]; rfl

theorem crcShifts_add (j k : Nat) (c : Crc) : crcShifts (j + k) c = crcShifts k (crcShifts j c) := by
  induction j generalizing c with
  | zero => rw [Nat.zero_add]; rfl
  | succ j ih => rw [Nat.succ_add]; exact ih (crcShift c)

/-- While the bits shifted out are 0 the polynomial does not come in. -/
theorem crcShifts_of_low_bits_zero {k : Nat} {c : Crc} (h : ∀ i < k, c.getLsbD i = false) :
    crcShifts k c = c >>> k := by
  induction k generalizing c with
  | zero => rfl
  | succ k ih =>
    have hrest : ∀ i < k, (c >>> 1).getLsbD i = false := fun i hi => by
      rw [BitVec.getLsbD_ushiftRight]
      exact h (1 + i) (by omega)
    have hshift : crcShift c = c >>> 1 := by
      rw [crcShift_eq, h 0 k.succ_pos]
      exact BitVec.xor_zero
    rw [crcShifts, hshift, ih hrest, ← BitVec.shiftRight_add, Nat.add_comm]

/-! ### One byte -/

theorem low_byte_xor_high_byte (c : Crc) : (c.setWidth 8).setWidth 16 ^^^ (c >>> 8) <<< 8 = c := by
  apply BitVec.eq_of_getLsbD_eq
  intro i hi
  by_cases hlow : i < 8
  · simp [hi, hlow]
  · simp [hi, hlow, show 8 + (i - 8) = i by omega]

/-- The byte's width of shifts takes in the low byte and moves the high byte down as it is. -/
theorem crcShifts_eight (c : Crc) : crcShifts 8 c = crcShifts 8 ((c.setWidth 8).setWidth 16) ^^^ (c >>> 8) := by
  have hhigh : crcShifts 8 ((c >>> 8) <<< 8) = c >>> 8 := by
    rw [crcShifts_of_low_bits_zero fun i hi => by simp [hi]]
    bv_omega
  rw [← hhigh, ← crcShifts_xor, low_byte_xor_high_byte]

/-- A byte's shifts in closed form (41_crc.md, the derived form under R121): the polynomial's feedback reaches the bits
still to be shifted out after four shifts, so `d` holds the eight bits on which it comes in. -/
theorem crcShifts_eight_byte (b : Byte) :
    let d : Crc := (b ^^^ (b <<< 4)).setWidth 16
    crcShifts 8 (b.setWidth 16) = (d <<< 8) ^^^ (d >>> 4) ^^^ (d <<< 3) := by
  revert b
  decide

theorem crcUpdate_eq_shifts_low_byte (crc : Crc) (b : Byte) :
    crcUpdate crc b = crcShifts 8 ((b ^^^ crc.setWidth 8).setWidth 16) ^^^ (crc >>> 8) := by
  have hlow : (crc ^^^ b.setWidth 16).setWidth 8 = b ^^^ crc.setWidth 8 := by
    rw [BitVec.setWidth_xor, BitVec.xor_comm]
    simp
  have hhigh : (crc ^^^ b.setWidth 16) >>> 8 = crc >>> 8 := by
    ext i hi
    simp
  rw [crcUpdate, crcShifts_eight, hlow, hhigh]

theorem shiftLeft_or_ushiftRight_eq_xor (d crc : Crc) : (d <<< 8) ||| (crc >>> 8) = (d <<< 8) ^^^ (crc >>> 8) := by
  ext i hi
  by_cases hlow : i < 8
  · simp [hlow]
  · simp [hlow, BitVec.getLsbD_of_ge crc (8 + i) (by omega)]

/-- Settles O12: the low byte goes through the shifts in closed form, and the high byte moves down beside it. -/
theorem crcUpdateByteWide : Obligations.CrcUpdateByteWide := by
  intro crc b d₀ d
  have hlow : crcShifts 8 (d₀.setWidth 16) = (d <<< 8) ^^^ (d >>> 4) ^^^ (d <<< 3) := crcShifts_eight_byte d₀
  calc crcUpdate crc b
      = crcShifts 8 (d₀.setWidth 16) ^^^ (crc >>> 8) := crcUpdate_eq_shifts_low_byte crc b
    _ = (d <<< 8) ^^^ (d >>> 4) ^^^ (d <<< 3) ^^^ (crc >>> 8) := by rw [hlow]
    _ = ((d <<< 8) ||| (crc >>> 8)) ^^^ (d >>> 4) ^^^ (d <<< 3) := by
      rw [shiftLeft_or_ushiftRight_eq_xor]
      ac_rfl

/-! ### Two bytes -/

/-- A word sent low byte first goes into the CRC like sixteen bits at once. -/
theorem crcUpdate_word (c v : Crc) :
    crcUpdate (crcUpdate c (v.setWidth 8)) ((v >>> 8).setWidth 8) = crcShifts 16 (c ^^^ v) := by
  have hhigh : ((v >>> 8).setWidth 8).setWidth 16 = v >>> 8 := by bv_omega
  have hfirst : crcUpdate c (v.setWidth 8) ^^^ (v >>> 8) = crcShifts 8 (c ^^^ v) := by
    rw [crcUpdate_eq_shifts_low_byte, crcShifts_eight (c ^^^ v), BitVec.setWidth_xor (x := c),
      BitVec.xor_comm (v.setWidth 8), BitVec.ushiftRight_xor_distrib, BitVec.xor_assoc]
  rw [crcUpdate, hhigh, hfirst, ← crcShifts_add]

theorem crcBlock_append_pair (bytes : List Byte) (x y : Byte) :
    crcBlock (bytes ++ [x, y]) = crcUpdate (crcUpdate (crcBlock bytes) x) y := by
  simp [crcBlock]

theorem crcShifts_sixteen_ones : crcShifts 16 (~~~ 0#16) = 0xF0B8 :=
  calc crcShifts 16 (~~~ 0#16)
      = crcShifts 8 (crcShifts 8 (~~~ 0#16)) := crcShifts_add 8 8 _
    _ = crcShifts 8 0x0F87 := congrArg (crcShifts 8) (by decide)
    _ = 0xF0B8 := by decide

/-- Settles O13: the CRC and its complement add up to sixteen ones, whatever the CRC is. -/
theorem sealedBytesHaveResidue : Obligations.SealedBytesHaveResidue := by
  intro covered
  rw [crcBlock_append_pair, crcUpdate_word, ← BitVec.not_xor_right, BitVec.xor_self, crcShifts_sixteen_ones]

end Sys2Proof.Machine

end

/-! The frame encoder's symbols, byte by byte. -/

section

namespace Sys2Proof.Machine

/-! ### Fields of a byte and of a CRC -/

theorem lowNibble_eq_ofNat (b : Byte) : lowNibble b = BitVec.ofNat 4 b.toNat := by
  apply BitVec.eq_of_toNat_eq
  simp [lowNibble]

theorem highNibble_eq_ofNat (b : Byte) : highNibble b = BitVec.ofNat 4 (b.toNat / 16) := by
  apply BitVec.eq_of_toNat_eq
  simp [highNibble, Nat.shiftRight_eq_div_pow]

theorem byteOfNibbles_highNibble_lowNibble (b : Byte) : byteOfNibbles (highNibble b) (lowNibble b) = b := by
  revert b
  decide

theorem lowByte_eq_setWidth (v : Crc) : lowByte v = v.setWidth 8 := by
  apply BitVec.eq_of_toNat_eq
  simp [lowByte]

theorem highByte_eq_setWidth (v : Crc) : highByte v = (v >>> 8).setWidth 8 := by
  apply BitVec.eq_of_toNat_eq
  simp [highByte]

/-- The logical frame is what the CRC covers, sealed by its complement (42_frame_codec.md R130; 41_crc.md R123). -/
theorem frameBytes_eq_sealed (p : List Byte) :
    let covered := countByte p :: p
    frameBytes p = covered ++ [(~~~ crcBlock covered).setWidth 8, ((~~~ crcBlock covered) >>> 8).setWidth 8] := by
  simp only [frameBytes, fcs, lowByte_eq_setWidth, highByte_eq_setWidth]

theorem countByte_toNat {p : List Byte} (hlen : p.length ≤ 27) : (countByte p).toNat = p.length + 3 := by
  rw [countByte, BitVec.toNat_ofNat]
  omega

/-! ### The symbol area -/

/-- Byte `i` of the frame stands in the symbol area as the symbols `2 * i` and `2 * i + 1` (42_frame_codec.md R131). -/
theorem frameSymbols_getD (c : Config) (p : List Byte) {i k : Nat} (hi : i < p.length + 3) (hk : k < 2) :
    (frameSymbols c p).getD (2 * i + k) 0 = (symbolPair c ((frameBytes p).getD i 0)).getD k 0 := by
  have hpart : (2 * i + k) / 2 = i := by omega
  have hplace : (2 * i + k) % 2 = k := by omega
  have hin : i < (frameBytes p).length := by rwa [frameBytes_length]
  rw [List.getD_eq_getElem?_getD, frameSymbols, getElem?_flatMap_of_length (by decide) (symbolPair_length c), hpart,
    hplace, List.getElem?_eq_getElem hin, List.getD_eq_getElem (frameBytes p) 0 hin, List.getD_eq_getElem?_getD]
  rfl

/-- Settles O14: the symbol area is written from byte 8 on, two bytes for each byte of the frame. -/
theorem frameBuildLaysOutSymbols : Obligations.FrameBuildLaysOutSymbols := by
  intro p s hlen hwf count covered f frame t
  have hframe : frame = frameBytes p := (frameBytes_eq_sealed p).symm
  have hsymbol : ∀ i k, i < count → k < 2 →
      t.txByte (8 + 2 * i + k) = (symbolPair s.config (frame.getD i 0)).getD k 0 := by
    intro i k hi hk
    rw [frameBuild_txByte hwf, if_pos (by omega), show 8 + 2 * i + k - 8 = 2 * i + k by omega,
      frameSymbols_getD s.config p hi hk, hframe]
  refine ⟨frameBuild_txLen_toNat hlen s, fun i hi => ⟨?_, ?_⟩, fun a ha => ?_, rfl⟩
  · rw [← lowNibble_eq_ofNat]
    exact hsymbol i 0 hi (by decide)
  · rw [← highNibble_eq_ofNat]
    exact hsymbol i 1 hi (by decide)
  · rw [frameBuild_txByte hwf, if_neg (by omega)]

end Sys2Proof.Machine

end

/-! A frame through the receiver, bit by bit. -/

section

namespace Sys2Proof.Machine

/-! ### The window -/

/-- The window after a run of recovered bits (44_pll.md R174). -/
def shiftAll (bits : List Bool) (w : Window) : Window := bits.foldl (fun v b => shiftIn b v) w

@[simp] theorem shiftAll_nil (w : Window) : shiftAll [] w = w := rfl

@[simp] theorem shiftAll_cons (b : Bool) (bits : List Bool) (w : Window) :
    shiftAll (b :: bits) w = shiftAll bits (shiftIn b w) := rfl

theorem shiftAll_append (as bs : List Bool) (w : Window) : shiftAll (as ++ bs) w = shiftAll bs (shiftAll as w) :=
  List.foldl_append

/-- A bit comes in at bit 11 and every other bit moves down by one. -/
theorem getLsbD_shiftIn (b : Bool) (w : Window) {i : Nat} (hi : i < 12) :
    (shiftIn b w).getLsbD i = if i = 11 then b else w.getLsbD (i + 1) := by
  have hnew : (if b then (0x800 : Window) else 0).getLsbD i = (decide (i = 11) && b) := by
    revert b
    interval_cases i <;> decide
  rw [shiftIn, BitVec.getLsbD_or, BitVec.getLsbD_ushiftRight, hnew]
  by_cases h : i = 11
  · simp [h]
  · simp [h, Nat.add_comm]

/-- The bits that came in stand at the top of the window, the first of them lowest. -/
theorem getLsbD_shiftAll (bits : List Bool) (w : Window) {i : Nat} (hi : i < 12) :
    (shiftAll bits w).getLsbD i =
      if i + bits.length < 12 then w.getLsbD (i + bits.length) else bits.getD (i + bits.length - 12) false := by
  induction bits generalizing w with
  | nil => simp [hi]
  | cons b bits ih =>
    rw [shiftAll_cons, ih, List.length_cons]
    rcases Nat.lt_trichotomy (i + bits.length) 11 with hlt | heq | hgt
    · rw [if_pos (by omega), if_pos (by omega), getLsbD_shiftIn b w (by omega), if_neg (by omega)]
      rfl
    · rw [if_pos (by omega), if_neg (by omega), getLsbD_shiftIn b w (by omega), if_pos heq,
        show i + (bits.length + 1) - 12 = 0 by omega]
      rfl
    · rw [if_neg (by omega), if_neg (by omega),
        show i + (bits.length + 1) - 12 = i + bits.length - 12 + 1 by omega]
      rfl

@[simp] theorem wireBits_append (as bs : List Byte) : wireBits (as ++ bs) = wireBits as ++ wireBits bs :=
  List.flatMap_append

/-- Bit `n` on the line is bit `n % 6` of byte `n / 6` (20_memory.md R63). -/
theorem wireBits_getElem? (bytes : List Byte) (n : Nat) :
    (wireBits bytes)[n]? = bytes[n / 6]?.map fun b => b.getLsbD (n % 6) := by
  have hbit : n % 6 < 6 := Nat.mod_lt _ (by decide)
  rw [wireBits, getElem?_flatMap_of_length (m := 6) (by decide) (by simp)]
  cases bytes[n / 6]? with
  | none => rfl
  | some b => simp [hbit]

/-- After its twelve bits a symbol pair stands in the window, bit by bit. -/
theorem getLsbD_shiftAll_wireBits (x y : Symbol) (w : Window) {i : Nat} (hi : i < 12) :
    (shiftAll (wireBits [byteOfSymbol x, byteOfSymbol y]) w).getLsbD i =
      if i < 6 then x.getLsbD i else y.getLsbD (i - 6) := by
  rw [getLsbD_shiftAll _ w hi, wireBits_length, List.length_cons, List.length_singleton, if_neg (by omega),
    Nat.add_sub_cancel, List.getD_eq_getElem?_getD, wireBits_getElem?]
  by_cases h : i < 6
  · simp [h, byteOfSymbol, Nat.div_eq_of_lt h, Nat.mod_eq_of_lt h]
    omega
  · have hpart : i / 6 = 1 := by omega
    have hplace : i % 6 = i - 6 := by omega
    simp [h, byteOfSymbol, hpart, hplace]
    omega

theorem firstSymbol_shiftAll (x y : Symbol) (w : Window) :
    firstSymbol (shiftAll (wireBits [byteOfSymbol x, byteOfSymbol y]) w) = x := by
  apply BitVec.eq_of_getLsbD_eq
  intro i hi
  rw [firstSymbol, BitVec.getLsbD_extractLsb', Nat.zero_add, getLsbD_shiftAll_wireBits x y w (by omega), if_pos hi]
  simp [hi]

theorem secondSymbol_shiftAll (x y : Symbol) (w : Window) :
    secondSymbol (shiftAll (wireBits [byteOfSymbol x, byteOfSymbol y]) w) = y := by
  apply BitVec.eq_of_getLsbD_eq
  intro i hi
  rw [secondSymbol, BitVec.getLsbD_extractLsb', getLsbD_shiftAll_wireBits x y w (by omega), if_neg (by omega),
    Nat.add_sub_cancel_left]
  simp [hi]

/-! ### Runs of bits -/

theorem recoverBits_cons {b : Bool} {s t : State} (h : recoverBit b s = .next t) (bs : List Bool) :
    recoverBits (b :: bs) s = recoverBits bs t := by
  rw [recoverBits, h]

theorem recoverBits_singleton (b : Bool) (s : State) : recoverBits [b] s = recoverBit b s := by
  rw [recoverBits]
  cases recoverBit b s <;> rfl

theorem recoverBits_append {as : List Bool} {s t : State} (h : recoverBits as s = .next t) (bs : List Bool) :
    recoverBits (as ++ bs) s = recoverBits bs t := by
  induction as generalizing s with
  | nil => cases h; rfl
  | cons a as ih =>
    rw [List.cons_append, recoverBits]
    rw [recoverBits] at h
    split at h
    · exact ih h
    · cases h
    · cases h

/-! ### Searching -/

/-- While searching, a bit that does not complete the start pattern only enters the window
(45_rx_state_machine.md R191). -/
theorem recoverBit_search {b : Bool} {s : State} (hidle : s.rxActive = false)
    (hbits : shiftIn b s.rxBits ≠ startPattern) :
    recoverBit b s = .next { s with rxBits := shiftIn b s.rxBits } := by
  rw [recoverBit, rxBit, if_neg (by simp [hidle]), search, if_neg hbits]

/-- While searching, the bit that completes the start pattern starts a frame (45_rx_state_machine.md R191). -/
theorem recoverBit_start {b : Bool} {s : State} (hidle : s.rxActive = false)
    (hbits : shiftIn b s.rxBits = startPattern) :
    recoverBit b s = .next (startDetected { s with rxBits := startPattern }) := by
  rw [recoverBit, rxBit, if_neg (by simp [hidle]), hbits, search, if_pos rfl]

/-- The window of a searching receiver after some bits, where none of them completes the start pattern. -/
def seek : List Bool → Window → Option Window
  | [], w => some w
  | b :: bs, w => if shiftIn b w = startPattern then none else seek bs (shiftIn b w)

theorem recoverBits_seek {bits : List Bool} {s : State} {w : Window} (hidle : s.rxActive = false)
    (hseek : seek bits s.rxBits = some w) : recoverBits bits s = .next { s with rxBits := w } := by
  induction bits generalizing s with
  | nil => cases hseek; rfl
  | cons b bits ih =>
    rw [seek] at hseek
    split at hseek
    · cases hseek
    · rename_i hbits
      rw [recoverBits_cons (recoverBit_search hidle hbits)]
      exact ih (s := { s with rxBits := shiftIn b s.rxBits }) hidle hseek

/-- The first four bytes of the preamble leave alternating bits in an empty window. -/
theorem recoverBits_preamble {s : State} (hidle : s.rxActive = false) (hbits : s.rxBits = 0) :
    recoverBits (wireBits (header.take 4)) s = .next { s with rxBits := 0xAAA } :=
  recoverBits_seek hidle (hbits ▸ by decide)

/-- From alternating bits on, the rest of the header starts a frame with its last bit and not before. -/
theorem recoverBits_start {s : State} (hidle : s.rxActive = false) (hbits : s.rxBits = 0xAAA) :
    recoverBits (wireBits (header.drop 4)) s = .next (startDetected { s with rxBits := startPattern }) := by
  have hseek : seek ((wireBits (header.drop 4)).take 23) s.rxBits = some 0x671 := hbits ▸ by decide
  have hlast : wireBits (header.drop 4) = (wireBits (header.drop 4)).take 23 ++ [true] := by decide
  rw [hlast, recoverBits_append (recoverBits_seek hidle hseek), recoverBits_singleton]
  exact recoverBit_start hidle (show shiftIn true 0x671 = startPattern by decide)

/-! ### The twelve bits of a byte -/

/-- `s` with `k` bits of a byte counted and the window `w`. -/
def State.inByte (s : State) (w : Window) (k : Nat) : State := { s with rxBits := w, rxBitCount := BitVec.ofNat 4 k }

theorem recoverBit_inByte {s : State} (hactive : s.rxActive = true) (b : Bool) (w : Window) (k : Nat) :
    recoverBit b (s.inByte w k) = assemble (s.inByte (shiftIn b w) k) :=
  if_pos hactive

/-- The bits of a byte before its twelfth enter the window and are counted (45_rx_state_machine.md R193). -/
theorem recoverBit_count {s : State} (hactive : s.rxActive = true) (b : Bool) (w : Window) {k : Nat} (hk : k < 11) :
    recoverBit b (s.inByte w k) = .next (s.inByte (shiftIn b w) (k + 1)) := by
  have hmore : ¬ (s.inByte (shiftIn b w) k).rxBitCount + 1 = bitWindowBits := by
    show ¬ BitVec.ofNat 4 k + 1 = 12
    bv_omega
  rw [recoverBit_inByte hactive, assemble, if_neg hmore, State.inByte, State.inByte, BitVec.ofNat_add]
  rfl

theorem recoverBits_count {s : State} (hactive : s.rxActive = true) (bits : List Bool) (w : Window) {k : Nat}
    (hk : k + bits.length < 12) :
    recoverBits bits (s.inByte w k) = .next (s.inByte (shiftAll bits w) (k + bits.length)) := by
  induction bits generalizing w k with
  | nil => rfl
  | cons b bits ih =>
    rw [List.length_cons] at hk ⊢
    rw [recoverBits_cons (recoverBit_count hactive b w (by omega)), ih (shiftIn b w) (by omega), shiftAll_cons,
      Nat.add_right_comm, Nat.add_assoc]

/-- The twelfth bit of a byte has the byte taken (45_rx_state_machine.md R193). -/
theorem recoverBit_twelfth {s : State} (hactive : s.rxActive = true) (b : Bool) (w : Window) :
    recoverBit b (s.inByte w 11) = takeByte (s.inByte (shiftIn b w) 0) :=
  (recoverBit_inByte hactive b w 11).trans (if_pos rfl)

theorem recoverBits_twelve {s : State} (hactive : s.rxActive = true) {bits : List Bool} (hlen : bits.length = 12)
    (w : Window) : recoverBits bits (s.inByte w 0) = takeByte (s.inByte (shiftAll bits w) 0) := by
  obtain ⟨init, last, rfl⟩ := (List.eq_nil_or_concat bits).resolve_left (List.ne_nil_of_length_eq_add_one hlen)
  rw [List.concat_eq_append] at hlen ⊢
  have hinit : 0 + init.length = 11 := by simpa using hlen
  have hrun := recoverBits_count hactive init w (k := 0) (by omega)
  rw [hinit] at hrun
  rw [recoverBits_append hrun, recoverBits_singleton, recoverBit_twelfth hactive, shiftAll_append]
  rfl

/-- A byte whose two symbols stand in the window is taken as valid in strict mode too, and only its count check can
reject it (45_rx_state_machine.md R193 to R195). -/
theorem takeByte_of_symbols {s : State} {b : Byte} (hc : s.config.Admissible)
    (hfirst : firstSymbol s.rxBits = enc6 s.config (lowNibble b))
    (hsecond : secondSymbol s.rxBits = enc6 s.config (highNibble b)) :
    takeByte s = if s.rxLen = 0 ∧ badCount b = true then .next (countAbort s) else acceptByte b s := by
  have hlow := symbolCodecRoundTrip s.config (lowNibble b) hc
  have hhigh := symbolCodecRoundTrip s.config (highNibble b) hc
  have hvalid : s.windowValid = true := by rw [State.windowValid, hfirst, hsecond, hlow, hhigh]; rfl
  have hbyte : s.windowByte = b := by
    rw [State.windowByte, hfirst, hsecond, hlow, hhigh, byteOfNibbles_highNibble_lowNibble]
  rw [takeByte, hvalid, hbyte, if_neg (by simp)]
  simp only [Bool.and_eq_true, decide_eq_true_eq]

/-- The twelve bits of a byte's symbol pair between two bytes of a frame. -/
theorem recoverBits_symbolPair {s : State} (hc : s.config.Admissible) (hactive : s.rxActive = true) (b : Byte)
    (w : Window) : ∃ v, recoverBits (wireBits (symbolPair s.config b)) (s.inByte w 0) =
      if s.rxLen = 0 ∧ badCount b = true then .next (countAbort (s.inByte v 0)) else acceptByte b (s.inByte v 0) :=
  ⟨_, (recoverBits_twelve hactive (wireBits_length _) w).trans
    (takeByte_of_symbols hc (firstSymbol_shiftAll _ _ _) (secondSymbol_shiftAll _ _ _))⟩

/-! ### The bytes of a frame -/

theorem acceptByte_later {s : State} (hpos : s.rxLen ≠ 0) (hroom : s.rxLen.toNat < 30) (b : Byte) :
    acceptByte b s = .next (if s.rxLen + 1 = s.rxCount then completeFrame (storeByte b s) else storeByte b s) := by
  have hcapture : captureCount b s = s := by rw [captureCount, if_neg hpos]
  rw [acceptByte, if_pos hroom, hcapture]
  rfl

/-- A byte after the count is stored where the frame has more (45_rx_state_machine.md R196). -/
theorem acceptByte_more {s : State} (hpos : s.rxLen ≠ 0) (hroom : s.rxLen.toNat < 30) (hmore : s.rxLen + 1 ≠ s.rxCount)
    (b : Byte) : acceptByte b s = .next (storeByte b s) := by
  rw [acceptByte_later hpos hroom, if_neg hmore]

/-- The last byte of a frame is stored and completes it (45_rx_state_machine.md R196, R197). -/
theorem acceptByte_last {s : State} (hpos : s.rxLen ≠ 0) (hroom : s.rxLen.toNat < 30) (hlast : s.rxLen + 1 = s.rxCount)
    (b : Byte) : acceptByte b s =
      .next (completeFrame { s with rxBuf := s.rxBuf.write s.rxLen.toNat b, rxLen := s.rxCount }) := by
  rw [acceptByte_later hpos hroom, if_pos hlast, storeByte, hlast]

/-- A legal count is stored as the first byte of the frame and expected as its length (45_rx_state_machine.md R195,
R196). -/
theorem acceptByte_first {s : State} (hzero : s.rxLen = 0) {b : Byte} (hcount : 4 ≤ b.toNat) :
    acceptByte b s = .next { s with rxBuf := s.rxBuf.write 0 b, rxLen := 1, rxCount := b } := by
  have hcapture : captureCount b s = { s with rxCount := b } := by rw [captureCount, if_pos hzero]
  have hmore : ¬ 1#8 = b := fun h => by simp [← h] at hcount
  rw [acceptByte, if_pos (by simp [hzero]), hcapture]
  simp [storeByte, hzero, hmore]

/-- The bytes of a frame after its count are stored, and the last of them completes it. -/
theorem recoverBits_after_count {bytes : List Byte} (hne : bytes ≠ []) {s : State} (hc : s.config.Admissible)
    (hactive : s.rxActive = true) (hpos : 0 < s.rxLen.toNat) (hlen : s.rxLen.toNat + bytes.length = s.rxCount.toNat)
    (hfits : s.rxCount.toNat ≤ 30) (w : Window) :
    ∃ v, recoverBits (wireBits (bytes.flatMap (symbolPair s.config))) (s.inByte w 0) = .next (completeFrame (State.inByte
      { s with rxBuf := s.rxBuf.writeFrom s.rxLen.toNat bytes, rxLen := s.rxCount } v 0)) := by
  induction bytes generalizing s w with
  | nil => exact absurd rfl hne
  | cons b bytes ih =>
    rw [List.length_cons] at hlen
    have hlater : s.rxLen ≠ 0 := fun h => by simp [h] at hpos
    have hroom : s.rxLen.toNat < 30 := by omega
    have hnext : (s.rxLen + 1).toNat = s.rxLen.toNat + 1 := byte_succ_toNat (by omega)
    obtain ⟨v, hpair⟩ := recoverBits_symbolPair hc hactive b w
    rw [if_neg fun h => hlater h.1] at hpair
    cases bytes with
    | nil =>
      have hlast : s.rxLen + 1 = s.rxCount := BitVec.eq_of_toNat_eq (hnext.trans hlen)
      rw [List.flatMap_singleton, hpair]
      exact ⟨v, acceptByte_last (s := s.inByte v 0) hlater hroom hlast b⟩
    | cons b' bytes =>
      have hmore : s.rxLen + 1 ≠ s.rxCount := fun h => by rw [← h, hnext, List.length_cons] at hlen; omega
      obtain ⟨u, hrest⟩ := ih (List.cons_ne_nil _ _) (s := storeByte b s) hc hactive
        (by rw [storeByte_rxLen, hnext]; omega) (by rw [storeByte_rxLen, hnext, storeByte_rxCount]; omega) hfits v
      rw [storeByte_rxLen, hnext] at hrest
      rw [List.flatMap_cons, wireBits_append,
        recoverBits_append (hpair.trans (acceptByte_more (s := s.inByte v 0) hlater hroom hmore b))]
      exact ⟨u, hrest⟩

/-- A whole frame after its header: its bytes stand in `RxBuf`, and the last of them completes it. -/
theorem recoverBits_frameSymbols {p : List Byte} (hmin : 1 ≤ p.length) (hlen : p.length ≤ 27) {s : State}
    (hc : s.config.Admissible) (hactive : s.rxActive = true) (hzero : s.rxLen = 0) (w : Window) :
    ∃ v, recoverBits (wireBits (frameSymbols s.config p)) (s.inByte w 0) = .next (completeFrame (State.inByte
      { s with rxBuf := s.rxBuf.writeFrom 0 (frameBytes p), rxLen := countByte p, rxCount := countByte p } v 0)) := by
  have hcount := countByte_toNat hlen
  have hlegal : badCount (countByte p) = false := (badCount_eq_false_iff _).mpr (by omega)
  obtain ⟨tail, htail⟩ : ∃ tail, frameBytes p = countByte p :: tail := ⟨_, rfl⟩
  have htailLen : tail.length = p.length + 2 := by simpa [htail] using frameBytes_length p
  obtain ⟨u, hfirst⟩ := recoverBits_symbolPair hc hactive (countByte p) w
  rw [if_neg (by simp [hlegal]), acceptByte_first (s := s.inByte u 0) hzero (by omega)] at hfirst
  obtain ⟨v, hrest⟩ := recoverBits_after_count (List.ne_nil_of_length_eq_add_one htailLen)
    (s := { s with rxBuf := s.rxBuf.write 0 (countByte p), rxLen := 1, rxCount := countByte p })
    hc hactive Nat.one_pos (show 1 + tail.length = (countByte p).toNat by omega)
    (show (countByte p).toNat ≤ 30 by omega) u
  rw [frameSymbols, htail, List.flatMap_cons, wireBits_append, recoverBits_append hfirst]
  exact ⟨v, hrest⟩

/-! ### The message -/

/-- From `s` to `t` one good frame came and no bad one, and `t` holds the frame of `p` as its pending message. -/
structure Received (p : List Byte) (s t : State) : Prop where
  rxDone : t.rxDone = true
  rxActive : t.rxActive = false
  rxGood : t.rxGood = s.rxGood + 1
  rxBad : t.rxBad = s.rxBad
  rxLen : t.rxLen.toNat = p.length + 3
  rxBytes : t.rxBytes 0 (p.length + 3) = frameBytes p

theorem frameBytes_residue (p : List Byte) : crcBlock (frameBytes p) = crcResidue := by
  rw [frameBytes_eq_sealed]
  exact sealedBytesHaveResidue _

theorem rxBytes_eq_drop_take (s : State) {a n k : Nat} (h : a + n ≤ k) :
    s.rxBytes a n = ((s.rxBytes 0 k).drop a).take n := by
  apply List.ext_getElem
  · simp [State.rxBytes]
    omega
  · intro i _ _
    simp [State.rxBytes]

/-- GET_MESSAGE of a received frame answers its payload with `crc_ok = 1` (46_host_commands.md R219; 41_crc.md R125). -/
theorem Received.getMessage {p : List Byte} {s t : State} (h : Received p s t) (hlen : p.length ≤ 27) {m : Byte}
    (hm : p.length ≤ m.toNat) : ∃ u, exec (.getMessage m) t = .next u ∧
      u.response = 0x00 :: BitVec.ofNat 8 p.length :: 0x01 :: p := by
  have hdata : t.messageData m = p := by
    rw [State.messageData, h.rxLen, Nat.add_sub_cancel, Nat.min_eq_right hm,
      rxBytes_eq_drop_take t (k := p.length + 3) (by omega), h.rxBytes, frameBytes]
    simp
  have hcrc : t.crcOk = true := by
    rw [State.crcOk, h.rxLen, h.rxBytes, frameBytes_residue]
    rfl
  have hexec : execGetMessage m t = .next (respond .ok
      (BitVec.ofNat 8 (t.messageData m).length :: byteOfBool t.crcOk :: t.messageData m) { t with rxDone := false }) := by
    rw [execGetMessage, if_pos h.rxDone, if_neg (by rw [h.rxLen]; omega),
      if_neg (by rw [h.rxLen, maxMessageLen]; omega)]
  exact ⟨_, hexec, by rw [respond_response, hdata, hcrc]; rfl⟩

theorem rxBytes_writeFrom {s : State} (hwf : s.rxBuf.wf) {bytes : List Byte}
    {t : State} (ht : t.rxBuf = s.rxBuf.writeFrom 0 bytes) : t.rxBytes 0 bytes.length = bytes := by
  apply List.ext_getElem
  · simp [State.rxBytes]
  · intro i _ hi
    simp [State.rxBytes, State.rxByte, ht, Memory.read_writeFrom hwf, hi]

/-- From alternating bits in the window on, the rest of the header and the symbols of a payload deliver it. -/
theorem received_after_preamble {p : List Byte} (hmin : 1 ≤ p.length) (hlen : p.length ≤ 27) {s : State}
    (hc : s.config.Admissible) (hwf : s.rxBuf.wf) (hidle : s.rxActive = false) :
    ∃ t, recoverBits (wireBits (header.drop 4 ++ frameSymbols s.config p)) { s with rxBits := 0xAAA } = .next t ∧
      Received p s t := by
  obtain ⟨v, hframe⟩ := recoverBits_frameSymbols hmin hlen (s := startDetected s) hc rfl rfl startPattern
  rw [wireBits_append, recoverBits_append (recoverBits_start (s := { s with rxBits := 0xAAA }) hidle rfl)]
  refine ⟨_, hframe, rfl, rfl, rfl, rfl, countByte_toNat hlen, ?_⟩
  rw [← frameBytes_length p]
  exact rxBytes_writeFrom hwf rfl

theorem wireBits_header_append (symbols : List Byte) :
    wireBits (header ++ symbols) = wireBits (header.take 4) ++ wireBits (header.drop 4 ++ symbols) := by
  rw [← wireBits_append]
  rfl

/-- Settles O38: the preamble only fills the window, the header's last bit starts the frame, and its symbols decode to
the bytes of the logical frame, whose CRC is the residue. -/
theorem recoveredFrameRoundTrips : Obligations.RecoveredFrameRoundTrips := by
  intro p s hmin hlen hc hwf hidle hbits
  obtain ⟨t, hrun, ht⟩ := received_after_preamble hmin hlen hc hwf hidle
  refine ⟨t, ?_, ht.rxDone, ht.rxActive, ht.rxGood, ht.rxBad, fun m => ht.getMessage hlen⟩
  rw [wireBits_header_append, recoverBits_append (recoverBits_preamble hidle hbits)]
  exact hrun

/-- Settles O39: the header starts the frame, and the count 3 of an empty payload is no legal one. -/
theorem emptyFrameIsDiscarded : Obligations.EmptyFrameIsDiscarded := by
  intro s hc hidle hbits
  have hstart := recoverBits_start (s := { s with rxBits := 0xAAA }) hidle rfl
  obtain ⟨v, hpair⟩ := recoverBits_symbolPair (s := startDetected s) hc rfl 3 startPattern
  have hfirst : (wireBits (header ++ frameSymbols s.config [])).take 60 =
      wireBits (header.take 4) ++ (wireBits (header.drop 4) ++ wireBits (symbolPair s.config 3)) := rfl
  rw [hfirst, recoverBits_append (recoverBits_preamble hidle hbits), recoverBits_append hstart]
  exact ⟨_, hpair.trans (if_pos ⟨rfl, rfl⟩), rfl, rfl, rfl, rfl, rfl⟩

end Sys2Proof.Machine

end

/-! A frame through the bit-clock PLL, tick by tick. -/

section

namespace Sys2Proof.Machine

/-! ### One tick in a given phase -/

/-- The PLL's registers as numbers: the last sample, the ramp and the ones counted since the last wrap
(44_pll.md R170 to R174). -/
structure Phase where
  last : Bool
  ramp : Nat
  ones : Nat
deriving DecidableEq

/-- `s` with its PLL in phase `p`. -/
def State.inPhase (s : State) (p : Phase) : State :=
  { s with
    rxSample := p.last
    rxLastSample := p.last
    rxRamp := BitVec.ofNat 8 p.ramp
    rxIntegrator := BitVec.ofNat 8 p.ones }

/-- How far a tick that samples `x` advances the ramp (44_pll.md R172). -/
def Phase.gain (x : Bool) (p : Phase) : Nat := if x = p.last then 20 else if p.ramp < 80 then 11 else 29

/-- The phase after a tick that samples `x`, before the wrap (44_pll.md R171, R172). -/
def Phase.advance (x : Bool) (p : Phase) : Phase := ⟨x, p.ramp + p.gain x, p.ones + x.toNat⟩

/-- The phase after the ramp has wrapped (44_pll.md R173, R174). -/
def Phase.wrap (p : Phase) : Phase := ⟨p.last, p.ramp - 160, 0⟩

/-- The bit that a wrap recovers (44_pll.md R174). -/
def Phase.bit (p : Phase) : Bool := decide (5 ≤ p.ones)

/-- A phase the registers can hold: the ramp is below its ceiling, and every one counted has lifted it. -/
def Phase.Legal (p : Phase) : Prop := p.ramp < 160 ∧ p.ones ≤ p.ramp

theorem Phase.gain_bounds (x : Bool) (p : Phase) : 11 ≤ p.gain x ∧ p.gain x ≤ 29 := by
  unfold Phase.gain
  split
  · decide
  · split <;> decide

theorem isEdge_inPhase (s : State) (p : Phase) (x : Bool) :
    (integrate { s.inPhase p with rxSample := x }).isEdge = (x != p.last) := rfl

theorem rampGain_inPhase (s : State) {p : Phase} (hp : p.Legal) (x : Bool) :
    (integrate { s.inPhase p with rxSample := x }).rampGain = BitVec.ofNat 8 (p.gain x) := by
  have hlow : BitVec.ofNat 8 p.ramp < rampTransition ↔ p.ramp < 80 := by
    have := hp.1
    rw [rampTransition]
    bv_omega
  rw [State.rampGain, isEdge_inPhase, Phase.gain]
  by_cases hx : x = p.last
  · rw [if_neg (by simp [hx]), if_pos hx]
    rfl
  · rw [if_pos (by simpa using hx), if_neg hx]
    by_cases hramp : p.ramp < 80
    · rw [if_pos hramp]
      exact if_pos (hlow.mpr hramp)
    · rw [if_neg hramp]
      exact if_neg fun h => hramp (hlow.mp h)

theorem integrator_inPhase (x : Bool) (n : Nat) :
    (if x then BitVec.ofNat 8 n + 1 else BitVec.ofNat 8 n) = BitVec.ofNat 8 (n + x.toNat) := by
  cases x
  · rfl
  · rw [BitVec.ofNat_add]
    rfl

/-- Integration and the ramp's advance lead from phase to phase. -/
theorem advanceRamp_inPhase (s : State) {p : Phase} (hp : p.Legal) (x : Bool) :
    advanceRamp (integrate { s.inPhase p with rxSample := x }) = s.inPhase (p.advance x) := by
  have hlast : (if x != p.last then x else p.last) = x := by cases x <;> cases p.last <;> rfl
  rw [advanceRamp, rampGain_inPhase s hp, isEdge_inPhase]
  simp only [integrate, State.inPhase, Phase.advance, hlast, integrator_inPhase, BitVec.ofNat_add]

/-- A wrap leads from phase to phase and puts the majority bit into the window. -/
theorem wrapRamp_inPhase (s : State) {p : Phase} (hramp : 160 ≤ p.ramp) (hhigh : p.ramp < 256) (hones : p.ones < 256) :
    wrapRamp (s.inPhase p) = State.inPhase { s with rxBits := shiftIn p.bit s.rxBits } p.wrap := by
  have hdown : BitVec.ofNat 8 p.ramp - rampLen = BitVec.ofNat 8 (p.ramp - 160) := by
    rw [rampLen]
    bv_omega
  have hbit : (s.inPhase p).recoveredBit = p.bit := by
    rw [State.recoveredBit, Phase.bit, decide_eq_decide, State.inPhase, integratorThreshold]
    bv_omega
  rw [wrapRamp, hbit, State.inPhase, State.inPhase, Phase.wrap, hdown]
  rfl

/-- A result with `f` applied to its next state. -/
def onNext (f : State → State) : Result → Result
  | .next s => .next (f s)
  | .fault e => .fault e
  | .refused r => .refused r

theorem search_inPhase (s : State) (p : Phase) : search (s.inPhase p) = (search s).inPhase p :=
  (apply_ite (State.inPhase · p) (s.rxBits = startPattern) (startDetected s) s).symm

theorem acceptByte_inPhase (b : Byte) (s : State) (p : Phase) :
    acceptByte b (s.inPhase p) = onNext (State.inPhase · p) (acceptByte b s) := by
  let stored := storeByte b (captureCount b s)
  rw [acceptByte, acceptByte, apply_ite (onNext _)]
  exact if_congr Iff.rfl (congrArg _
    (apply_ite (State.inPhase · p) (stored.rxLen = stored.rxCount) (completeFrame stored) stored).symm) rfl

theorem takeByte_inPhase (s : State) (p : Phase) :
    takeByte (s.inPhase p) = onNext (State.inPhase · p) (takeByte s) := by
  rw [takeByte, takeByte, apply_ite (onNext _), apply_ite (onNext _), ← acceptByte_inPhase]
  rfl

/-- `rx_bit` neither reads nor writes the PLL's phase. -/
theorem rxBit_inPhase (s : State) (p : Phase) : rxBit (s.inPhase p) = onNext (State.inPhase · p) (rxBit s) := by
  rw [rxBit, rxBit, apply_ite (onNext _), assemble, assemble, apply_ite (onNext _), ← takeByte_inPhase, search_inPhase]
  rfl

theorem tick_eq_pllStep {s : State} (hruns : s.rxRuns = true) (p : Phase) (x : Bool) :
    tick x (s.inPhase p) = pllStep { s.inPhase p with rxSample := x } :=
  if_pos hruns

/-- A tick whose ramp stays below its ceiling (44_pll.md R175). -/
theorem tick_advance {s : State} (hruns : s.rxRuns = true) {p : Phase} (hp : p.Legal) {x : Bool}
    (hramp : p.ramp + p.gain x < 160) : tick x (s.inPhase p) = .next (s.inPhase (p.advance x)) := by
  have hbelow : ¬ rampLen ≤ (s.inPhase (p.advance x)).rxRamp := by
    show ¬ (160 : Byte) ≤ BitVec.ofNat 8 (p.ramp + p.gain x)
    bv_omega
  rw [tick_eq_pllStep hruns, pllStep, advanceRamp_inPhase s hp]
  exact if_neg hbelow

/-- A tick whose ramp wraps recovers a bit (44_pll.md R175). -/
theorem tick_wrap {s t : State} (hruns : s.rxRuns = true) {p : Phase} (hp : p.Legal) {x : Bool}
    (hramp : 160 ≤ p.ramp + p.gain x) (hbit : recoverBit (p.advance x).bit s = .next t) :
    tick x (s.inPhase p) = .next (t.inPhase (p.advance x).wrap) := by
  obtain ⟨hlow, hones⟩ := hp
  obtain ⟨_, hgain⟩ := p.gain_bounds x
  have hone : x.toNat ≤ 1 := x.toNat_le
  have habove : rampLen ≤ (s.inPhase (p.advance x)).rxRamp := by
    show (160 : Byte) ≤ BitVec.ofNat 8 (p.ramp + p.gain x)
    bv_omega
  rw [tick_eq_pllStep hruns, pllStep, advanceRamp_inPhase s ⟨hlow, hones⟩]
  refine (if_pos habove).trans ?_
  rw [wrapRamp_inPhase s (show 160 ≤ p.ramp + p.gain x from hramp) (show p.ramp + p.gain x < 256 by omega)
    (show p.ones + x.toNat < 256 by omega)]
  exact (rxBit_inPhase _ _).trans (congrArg _ hbit)

/-! ### Runs of equal samples -/

theorem Phase.advance_same (x : Bool) (φ k : Nat) : Phase.advance x ⟨x, φ, k⟩ = ⟨x, φ + 20, k + x.toNat⟩ := by
  simp [Phase.advance, Phase.gain]

theorem runTicks_singleton (x : Bool) (s : State) : runTicks [x] s = tick x s := by
  rw [runTicks]
  cases tick x s <;> rfl

theorem mul_toNat_le (n : Nat) (b : Bool) : n * b.toNat ≤ n := mul_le_of_le_one_right n.zero_le b.toNat_le

/-- Without an edge and below the ceiling the ramp rises by 20 a tick (44_pll.md R172). -/
theorem runTicks_steady {s : State} (hruns : s.rxRuns = true) (x : Bool) {φ k : Nat} (hones : k ≤ φ) {n : Nat}
    (hramp : φ + 20 * n < 160) :
    runTicks (List.replicate n x) (s.inPhase ⟨x, φ, k⟩) = .next (s.inPhase ⟨x, φ + 20 * n, k + n * x.toNat⟩) := by
  induction n with
  | zero => simp [runTicks]
  | succ n ih =>
    have hlegal : Phase.Legal ⟨x, φ + 20 * n, k + n * x.toNat⟩ := by
      refine ⟨by show φ + 20 * n < 160; omega, ?_⟩
      show k + n * x.toNat ≤ φ + 20 * n
      have := mul_toNat_le n x
      omega
    have htick := tick_advance hruns hlegal (x := x) (by simp only [Phase.gain, if_true]; omega)
    rw [List.replicate_succ', runTicks_append (ih (by omega)), runTicks_singleton, htick, Phase.advance_same]
    rw [Nat.add_assoc, Nat.add_assoc, ← Nat.mul_succ, ← Nat.succ_mul]

/-- At least five samples of a bit are the majority, whatever one further sample is (44_pll.md R174). -/
theorem majority_of_most {n : Nat} (hmost : 5 ≤ n) (b x : Bool) : decide (5 ≤ n * b.toNat + x.toNat) = b := by
  have hone := x.toNat_le
  cases b with
  | false => exact decide_eq_false (by rw [Bool.toNat_false]; omega)
  | true => exact decide_eq_true (by rw [Bool.toNat_true]; omega)

/-- Where `n + 1` equal samples take the ramp from just past one wrap to the next, their level is recovered. -/
theorem runTicks_steady_wrap {s t : State} (hruns : s.rxRuns = true) {b : Bool} {φ n : Nat} (hn : 4 ≤ n)
    (hlow : φ + 20 * n < 160) (hhigh : 160 ≤ φ + 20 * n + 20) (hbit : recoverBit b s = .next t) :
    runTicks (List.replicate (n + 1) b) (s.inPhase ⟨b, φ, 0⟩) = .next (t.inPhase ⟨b, φ + 20 * n + 20 - 160, 0⟩) := by
  have hones : 0 + n * b.toNat ≤ φ + 20 * n := by
    have := mul_toNat_le n b
    omega
  have hmajority : (Phase.advance b ⟨b, φ + 20 * n, 0 + n * b.toNat⟩).bit = b := by
    rw [Phase.advance_same, Nat.zero_add, ← Nat.succ_mul]
    exact majority_of_most (Nat.succ_le_succ hn) b false
  have htick := tick_wrap hruns (p := ⟨b, φ + 20 * n, 0 + n * b.toNat⟩) ⟨hlow, hones⟩ (x := b)
    (by simp only [Phase.gain, if_true]; omega) (hmajority.symm ▸ hbit)
  rw [List.replicate_succ', runTicks_append (runTicks_steady hruns b φ.zero_le hlow), runTicks_singleton, htick,
    Phase.advance_same]
  rfl

/-! ### In step with the line -/

/-- `σ` has sampled bit `b` of the line to its end, and its receiver has got every bit before it from `s`: either `b` too,
the ramp having just wrapped, or `b` is what the next tick recovers, whatever its sample is. -/
inductive InStep (b : Bool) (s : State) : State → Prop
  | onTime {t : State} {φ : Nat} (hruns : t.rxRuns = true) (hbit : recoverBit b s = .next t) (hramp : φ ≤ 8) :
      InStep b s (t.inPhase ⟨b, φ, 0⟩)
  | late {φ n : Nat} (hruns : s.rxRuns = true) (hlow : 151 ≤ φ) (hhigh : φ < 160) (hmost : 5 ≤ n) (hall : n ≤ 8) :
      InStep b s (s.inPhase ⟨b, φ, n * b.toNat⟩)

theorem recoverBit_rxRuns {b : Bool} {s t : State} (h : recoverBit b s = .next t) : t.rxRuns = s.rxRuns := by
  rw [rxBit_frame h]
  rfl

/-- The tick after a late bit recovers it. -/
theorem tick_late {b : Bool} {s t : State} (hruns : s.rxRuns = true) (hbit : recoverBit b s = .next t) {φ n : Nat}
    (hlow : 151 ≤ φ) (hhigh : φ < 160) (hmost : 5 ≤ n) (hall : n ≤ 8) (x : Bool) :
    tick x (s.inPhase ⟨b, φ, n * b.toNat⟩) =
      .next (t.inPhase ⟨x, φ + (if x = b then 20 else 29) - 160, 0⟩) := by
  have hgain : Phase.gain x ⟨b, φ, n * b.toNat⟩ = if x = b then 20 else 29 := by
    simp only [Phase.gain, if_neg (show ¬ φ < 80 by omega)]
  have hmajority : (Phase.advance x ⟨b, φ, n * b.toNat⟩).bit = b := majority_of_most hmost b x
  have hones : n * b.toNat ≤ φ := (mul_toNat_le n b).trans (by omega)
  have hwrap : 160 ≤ φ + Phase.gain x ⟨b, φ, n * b.toNat⟩ := by
    rw [hgain]
    split <;> omega
  rw [tick_wrap hruns ⟨hhigh, hones⟩ hwrap (hmajority.symm ▸ hbit), ← hgain]
  rfl

/-- A receiver whose ramp wrapped with the end of bit `a` recovers the next bit with its end too, or, after an edge, is
late with it. -/
theorem runTicks_bit_onTime {a b : Bool} {t u : State} (hruns : t.rxRuns = true) (hb : recoverBit b t = .next u) {φ : Nat}
    (hramp : φ ≤ 8) : ∃ τ, runTicks (List.replicate 8 b) (t.inPhase ⟨a, φ, 0⟩) = .next τ ∧ InStep b t τ := by
  by_cases hab : b = a
  · subst hab
    exact ⟨_, runTicks_steady_wrap hruns (n := 7) (by decide) (by omega) (by omega) hb,
      .onTime ((recoverBit_rxRuns hb).trans hruns) hb (by omega)⟩
  · have hgain : Phase.gain b ⟨a, φ, 0⟩ = 11 := by
      simp only [Phase.gain, if_neg hab, if_pos (show φ < 80 by omega)]
    have hedge : tick b (t.inPhase ⟨a, φ, 0⟩) = .next (t.inPhase ⟨b, φ + 11, b.toNat⟩) := by
      rw [tick_advance hruns ⟨show φ < 160 by omega, φ.zero_le⟩ (show φ + Phase.gain b ⟨a, φ, 0⟩ < 160 by omega),
        Phase.advance, hgain, Nat.zero_add]
    have hones : b.toNat ≤ φ + 11 := b.toNat_le.trans (by omega)
    have hrest := runTicks_steady hruns b hones (n := 7) (by omega)
    rw [show b.toNat + 7 * b.toNat = 8 * b.toNat by omega] at hrest
    exact ⟨_, (runTicks_cons hedge _).trans hrest, .late hruns (by omega) (by omega) (by decide) le_rfl⟩

/-- A receiver that is late with bit `a` recovers it in the next tick, and stays late or, after an edge, recovers the
next bit with its end. -/
theorem runTicks_bit_late {a b : Bool} {s t u : State} (hruns : s.rxRuns = true) (ha : recoverBit a s = .next t)
    (hb : recoverBit b t = .next u) {φ n : Nat} (hlow : 151 ≤ φ) (hhigh : φ < 160) (hmost : 5 ≤ n) (hall : n ≤ 8) :
    ∃ τ, runTicks (List.replicate 8 b) (s.inPhase ⟨a, φ, n * a.toNat⟩) = .next τ ∧ InStep b t τ := by
  have hfirst := tick_late hruns ha hlow hhigh hmost hall b
  have hruns' := (recoverBit_rxRuns ha).trans hruns
  by_cases hab : b = a
  · rw [if_pos hab] at hfirst
    have hrest := runTicks_steady hruns' b (φ := φ + 20 - 160) (Nat.zero_le _) (n := 7) (by omega)
    rw [Nat.zero_add] at hrest
    exact ⟨_, (runTicks_cons hfirst _).trans hrest, .late hruns' (by omega) (by omega) (by decide) (by decide)⟩
  · rw [if_neg hab] at hfirst
    have hrest := runTicks_steady_wrap hruns' (φ := φ + 29 - 160) (n := 6) (by decide) (by omega) (by omega) hb
    exact ⟨_, (runTicks_cons hfirst _).trans hrest, .onTime ((recoverBit_rxRuns hb).trans hruns') hb (by omega)⟩

/-- Eight samples of a bit keep the receiver in step. -/
theorem runTicks_bit {a b : Bool} {s t u σ : State} (h : InStep a s σ) (ha : recoverBit a s = .next t)
    (hb : recoverBit b t = .next u) : ∃ τ, runTicks (List.replicate 8 b) σ = .next τ ∧ InStep b t τ := by
  cases h with
  | onTime hruns hbit hramp =>
    cases hbit.symm.trans ha
    exact runTicks_bit_onTime hruns hb hramp
  | late hruns hlow hhigh hmost hall => exact runTicks_bit_late hruns ha hb hlow hhigh hmost hall

/-- A run of bits that completes begins with a bit that does. -/
theorem recoverBits_cons_cases {b : Bool} {bs : List Bool} {s t : State} (h : recoverBits (b :: bs) s = .next t) :
    ∃ u, recoverBit b s = .next u ∧ recoverBits bs u = .next t := by
  rw [recoverBits] at h
  split at h
  · exact ⟨_, ‹_›, h⟩
  · cases h
  · cases h

/-- A receiver in step recovers from the samples of a run of bits what it would make of the bits themselves. -/
theorem runTicks_lineSamples {bits : List Bool} {a : Bool} {s t σ : State} (h : InStep a s σ)
    (hrun : recoverBits (a :: bits) s = .next t) :
    ∃ b u τ, runTicks (lineSamples bits) σ = .next τ ∧ InStep b u τ ∧ recoverBit b u = .next t := by
  induction bits generalizing a s σ with
  | nil => exact ⟨a, s, σ, rfl, h, (recoverBits_singleton a s).symm.trans hrun⟩
  | cons b bits ih =>
    obtain ⟨u, ha, hrest⟩ := recoverBits_cons_cases hrun
    obtain ⟨v, hb, _⟩ := recoverBits_cons_cases hrest
    obtain ⟨τ, hticks, hstep⟩ := runTicks_bit h ha hb
    obtain ⟨b', u', τ', hticks', hstep', hlast⟩ := ih hstep hrest
    exact ⟨b', u', τ', (runTicks_append hticks _).trans hticks', hstep', hlast⟩

/-- The first idle tick after a frame finds the last bit recovered or recovers it. -/
theorem tick_idle_inStep {b : Bool} {s t σ : State} (h : InStep b s σ) (hbit : recoverBit b s = .next t) :
    ∃ φ, φ < 160 ∧ t.rxRuns = true ∧ tick false σ = .next (t.inPhase ⟨false, φ, 0⟩) := by
  cases h with
  | @onTime t' φ hruns hbit' hramp =>
    cases hbit'.symm.trans hbit
    obtain ⟨_, hgain⟩ := Phase.gain_bounds false ⟨b, φ, 0⟩
    have hramp' : φ + Phase.gain false ⟨b, φ, 0⟩ < 160 := by omega
    exact ⟨_, hramp', hruns, tick_advance hruns ⟨show φ < 160 by omega, φ.zero_le⟩ hramp'⟩
  | @late φ n hruns hlow hhigh hmost hall =>
    exact ⟨_, by split <;> omega, (recoverBit_rxRuns hbit).trans hruns, tick_late hruns hbit hlow hhigh hmost hall false⟩

/-! ### Idle ticks -/

theorem shiftIn_false_ne_startPattern (w : Window) : shiftIn false w ≠ startPattern := by
  intro h
  have htop : (shiftIn false w).getLsbD 11 = false := getLsbD_shiftIn false w (by decide)
  rw [h] at htop
  exact absurd htop (by decide)

theorem recoverBit_false_idle {s : State} (hidle : s.rxActive = false) :
    recoverBit false s = .next { s with rxBits := shiftIn false s.rxBits } :=
  recoverBit_search hidle (shiftIn_false_ne_startPattern _)

/-- An idle tick of a searching receiver that has counted no ones. -/
theorem tick_idle {s : State} (hruns : s.rxRuns = true) (hidle : s.rxActive = false) {φ : Nat} (hφ : φ < 160) :
    tick false (s.inPhase ⟨false, φ, 0⟩) = .next (if φ + 20 < 160 then s.inPhase ⟨false, φ + 20, 0⟩
      else State.inPhase { s with rxBits := shiftIn false s.rxBits } ⟨false, φ + 20 - 160, 0⟩) := by
  have hlegal : Phase.Legal ⟨false, φ, 0⟩ := ⟨hφ, φ.zero_le⟩
  have hgain : Phase.gain false ⟨false, φ, 0⟩ = 20 := rfl
  by_cases hramp : φ + 20 < 160
  · rw [if_pos hramp]
    exact tick_advance hruns hlegal (hgain ▸ hramp)
  · rw [if_neg hramp]
    exact tick_wrap hruns hlegal (hgain ▸ Nat.le_of_not_lt hramp) (recoverBit_false_idle hidle)

/-- Idle ticks before a frame only move the ramp. -/
theorem runTicks_idle_before {s : State} (hruns : s.rxRuns = true) (hidle : s.rxActive = false) (hbits : s.rxBits = 0)
    (n : Nat) :
    runTicks (List.replicate n false) (s.inPhase ⟨false, 0, 0⟩) = .next (s.inPhase ⟨false, 20 * (n % 8), 0⟩) := by
  have hsame : { s with rxBits := shiftIn false s.rxBits } = s := by
    rw [show shiftIn false s.rxBits = s.rxBits by rw [hbits]; rfl]
  induction n with
  | zero => rfl
  | succ n ih =>
    rw [List.replicate_succ', runTicks_append ih, runTicks_singleton, tick_idle hruns hidle (by omega), hsame]
    by_cases hwrap : n % 8 = 7
    · rw [if_neg (by omega), hwrap, show (n + 1) % 8 = 0 by omega]
    · rw [if_pos (by omega), show (n + 1) % 8 = n % 8 + 1 by omega, Nat.mul_succ]

/-- Idle ticks after a frame move the ramp and the window. -/
theorem runTicks_idle_after {s : State} (hruns : s.rxRuns = true) (hidle : s.rxActive = false) {φ : Nat} (hφ : φ < 160)
    (n : Nat) : ∃ w ψ, runTicks (List.replicate n false) (s.inPhase ⟨false, φ, 0⟩) =
      .next (State.inPhase { s with rxBits := w } ⟨false, ψ, 0⟩) := by
  induction n generalizing s φ with
  | zero => exact ⟨s.rxBits, φ, rfl⟩
  | succ n ih =>
    have htick := tick_idle hruns hidle hφ
    rw [List.replicate_succ]
    by_cases hramp : φ + 20 < 160
    · rw [if_pos hramp] at htick
      rw [runTicks_cons htick]
      exact ih hruns hidle hramp
    · rw [if_neg hramp] at htick
      rw [runTicks_cons htick]
      exact ih (s := { s with rxBits := shiftIn false s.rxBits }) hruns hidle (by omega)

/-! ### Catching the preamble -/

/-- The phase and the window of a searching receiver after some ticks, where none of them completes the start pattern. -/
def hunt : List Bool → Phase → Window → Option (Phase × Window)
  | [], p, w => some (p, w)
  | x :: xs, p, w =>
    if (p.advance x).ramp < 160 then hunt xs (p.advance x) w
    else if shiftIn (p.advance x).bit w = startPattern then none
    else hunt xs (p.advance x).wrap (shiftIn (p.advance x).bit w)

theorem Phase.Legal.advance {p : Phase} (hp : p.Legal) {x : Bool} (hramp : (p.advance x).ramp < 160) :
    (p.advance x).Legal := by
  obtain ⟨_, hones⟩ := hp
  obtain ⟨hgain, _⟩ := p.gain_bounds x
  have hone := x.toNat_le
  exact ⟨hramp, show p.ones + x.toNat ≤ p.ramp + p.gain x by omega⟩

theorem Phase.Legal.wrap {p : Phase} (hp : p.Legal) (x : Bool) : (p.advance x).wrap.Legal := by
  obtain ⟨hlow, _⟩ := hp
  obtain ⟨_, hgain⟩ := p.gain_bounds x
  exact ⟨show p.ramp + p.gain x - 160 < 160 by omega, Nat.zero_le _⟩

/-- A searching receiver goes through the phases and windows that `hunt` computes. -/
theorem runTicks_hunt {xs : List Bool} {p q : Phase} {v : Window} {s : State} (hruns : s.rxRuns = true)
    (hidle : s.rxActive = false) (hp : p.Legal) (hhunt : hunt xs p s.rxBits = some (q, v)) :
    runTicks xs (s.inPhase p) = .next (State.inPhase { s with rxBits := v } q) := by
  induction xs generalizing p s with
  | nil => cases hhunt; rfl
  | cons x xs ih =>
    rw [hunt] at hhunt
    split at hhunt
    · rename_i hramp
      rw [runTicks_cons (tick_advance hruns hp hramp)]
      exact ih hruns hidle (hp.advance hramp) hhunt
    · rename_i hramp
      split at hhunt
      · cases hhunt
      · rename_i hbits
        rw [runTicks_cons (tick_wrap hruns hp (Nat.le_of_not_lt hramp) (recoverBit_search hidle hbits))]
        exact ih (s := { s with rxBits := shiftIn (p.advance x).bit s.rxBits }) hruns hidle (hp.wrap x) hhunt

/-- Where the preamble begins in the first half of the ramp's cycle, its edges retard the ramp until it wraps just after
them. -/
theorem hunt_preamble_retarded : ∀ j < 4,
    hunt (lineSamples (wireBits (header.take 4))) ⟨false, 20 * j, 0⟩ 0 = some (⟨true, 151 + 2 * j, 8⟩, 0x555) := by
  decide

/-- Where it begins in the second half, its edges advance the ramp until it wraps just before them. -/
theorem hunt_preamble_advanced : ∀ j < 8, 4 ≤ j →
    hunt (lineSamples (wireBits (header.take 4))) ⟨false, 20 * j, 0⟩ 0 = some (⟨true, 2 * j - 7, 0⟩, 0xAAA) := by
  decide

/-- The last bit of the fourth byte of the preamble. -/
theorem recoverBit_preamble {s : State} (hidle : s.rxActive = false) :
    recoverBit true { s with rxBits := 0x555 } = .next { s with rxBits := 0xAAA } := by
  have hin : shiftIn true 0x555 = 0xAAA := by decide
  have hne : shiftIn true 0x555 ≠ startPattern := by decide
  have hbit := recoverBit_search (s := { s with rxBits := 0x555 }) hidle hne
  rwa [hin] at hbit

/-- Wherever in the ramp's cycle the preamble begins, four bytes of it bring the receiver in step. -/
theorem inStep_after_preamble {s : State} (hruns : s.rxRuns = true) (hidle : s.rxActive = false) (hbits : s.rxBits = 0)
    {j : Nat} (hj : j < 8) :
    ∃ σ, runTicks (lineSamples (wireBits (header.take 4))) (s.inPhase ⟨false, 20 * j, 0⟩) = .next σ ∧
      InStep true { s with rxBits := 0x555 } σ := by
  have hlegal : Phase.Legal ⟨false, 20 * j, 0⟩ := ⟨by show 20 * j < 160; omega, Nat.zero_le _⟩
  by_cases hhalf : j < 4
  · have hhunt := hunt_preamble_retarded j hhalf
    rw [← hbits] at hhunt
    exact ⟨_, runTicks_hunt hruns hidle hlegal hhunt, .late (n := 8) hruns (by omega) (by omega) (by decide) le_rfl⟩
  · have hhunt := hunt_preamble_advanced j hj (Nat.le_of_not_lt hhalf)
    rw [← hbits] at hhunt
    exact ⟨_, runTicks_hunt hruns hidle hlegal hhunt, .onTime hruns (recoverBit_preamble hidle) (by omega)⟩

/-! ### The loopback -/

theorem lineSamples_append (as bs : List Bool) : lineSamples (as ++ bs) = lineSamples as ++ lineSamples bs :=
  List.flatMap_append

/-- A pending message is not touched by what a searching receiver does with its PLL. -/
theorem Received.inPhase {p : List Byte} {s t : State} (h : Received p s t) (w : Window) (q : Phase) :
    Received p s (State.inPhase { t with rxBits := w } q) :=
  { h with }

/-- A receiver at rest, after any number of idle ticks, takes in a frame from its samples and at least one idle tick. -/
theorem runTicks_loopback {p : List Byte} (hmin : 1 ≤ p.length) (hlen : p.length ≤ 27) {s : State}
    (hc : s.config.Admissible) (hwf : s.rxBuf.wf) (hruns : s.rxRuns = true) (hidle : s.rxActive = false)
    (hbits : s.rxBits = 0) (idle tail : Nat) :
    ∃ t, runTicks (List.replicate idle false ++ lineSamples (wireBits (header ++ frameSymbols s.config p)) ++
        List.replicate (tail + 1) false) (s.inPhase ⟨false, 0, 0⟩) = .next t ∧ Received p s t := by
  obtain ⟨σ, hcatch, hstep⟩ := inStep_after_preamble hruns hidle hbits (Nat.mod_lt idle (by decide))
  obtain ⟨t, hframe, ht⟩ := received_after_preamble hmin hlen hc hwf hidle
  obtain ⟨b, u, τ, hline, hstep', hlast⟩ :=
    runTicks_lineSamples hstep ((recoverBits_cons (recoverBit_preamble hidle) _).trans hframe)
  obtain ⟨φ, hφ, hruns', hidleTick⟩ := tick_idle_inStep hstep' hlast
  obtain ⟨w, ψ, hafter⟩ := runTicks_idle_after hruns' ht.rxActive hφ tail
  refine ⟨_, ?_, ht.inPhase w ⟨false, ψ, 0⟩⟩
  rw [wireBits_header_append, lineSamples_append, List.append_assoc, List.append_assoc,
    runTicks_append (runTicks_idle_before hruns hidle hbits idle), runTicks_append hcatch, runTicks_append hline,
    List.replicate_succ, runTicks_cons hidleTick]
  exact hafter

/-- Settles O40: the preamble brings the PLL in step with the line, eight samples to a bit keep it there, and the bits
it recovers are a whole frame's. -/
theorem loopbackDeliversPayload : Obligations.LoopbackDeliversPayload := by
  intro c imm8 p idle tail hc hmin hlen htail
  obtain ⟨n, rfl⟩ := Nat.exists_eq_add_of_le' htail
  let s : State := respond .ok [] { State.reset with config := c, rxEnabled := true }
  obtain ⟨t, hrun, ht⟩ := runTicks_loopback hmin hlen (s := s) hc (show Memory.wf [] by decide) rfl rfl rfl idle n
  exact ⟨s, t, rfl, hrun, ht.rxDone, ht.rxGood, ht.rxBad, fun m => ht.getMessage hlen⟩

end Sys2Proof.Machine

end

/-! The transmit state machine: its two commands, its tick, and how long it stays active. -/

section

namespace Sys2Proof.Machine

/-! ### What one tick of the active transmitter does -/

/-- A tick at another sample than 0 is counted and nothing else happens (43_tx_state_machine.md R153). -/
theorem tick_sampleCounted {s : State} (hactive : s.txActive = true) (hsample : s.txSample ≠ 0) (x : Bool) :
    tick x s = .next { s with txSample := s.txSample + 1 } := by
  rw [tick_eq_txStep hactive, txStep, if_neg hsample]

/-- A tick at sample 0 with no frame left ends the frame (43_tx_state_machine.md R153, R155). -/
theorem tick_frameEnded {s : State} (hactive : s.txActive = true) (hsample : s.txSample = 0)
    (hend : s.txLen.toNat ≤ s.txIndex.toNat) (x : Bool) : tick x s = .next (endOfFrame { s with txSample := 1 }) := by
  rw [tick_eq_txStep hactive, txStep_eq_endOfFrame hsample hend, hsample]
  rfl

/-- A tick at sample 0 with frame left emits the bit at the cursor (43_tx_state_machine.md R153, R154). -/
theorem tick_bitSent {s : State} (hactive : s.txActive = true) (hsample : s.txSample = 0)
    (hmore : s.txIndex.toNat < s.txLen.toNat) (hroom : s.txIndex.toNat < 68) (x : Bool) :
    tick x s = .next (sendBit { s with txSample := 1 }) := by
  rw [tick_eq_txStep hactive, txStep_eq_emitBit hsample hmore, hsample, emitBit, if_pos hroom]
  rfl

/-- The bit at the cursor is a symbol's last one where `tx_bit` is 5, for every legal `tx_bit`
(43_tx_state_machine.md R154). -/
theorem atLastSymbolBit_eq_decide {s : State} (hbit : s.txBit.toNat ≤ 5) :
    s.atLastSymbolBit = decide (s.txBit.toNat = 5) := by
  rw [State.atLastSymbolBit, Bool.beq_eq_decide_eq, decide_eq_decide, symbolBits]
  bv_omega

/-- The end of a frame, with the deasserted level of PTT written out (43_tx_state_machine.md R155). -/
theorem endOfFrame_eq (s : State) : endOfFrame s =
    { s with txActive := false, txOut := false, pttOut := s.pttInverted, txMsgCount := s.txMsgCount + 1 } := by
  rw [endOfFrame, Bool.false_xor]

/-- Adding one in a register of `w` bits is adding one modulo `2 ^ w`. -/
theorem ofNat_toNat_succ_mod {w : Nat} (v : BitVec w) : BitVec.ofNat w ((v.toNat + 1) % 2 ^ w) = v + 1 := by
  apply BitVec.eq_of_toNat_eq
  simp [BitVec.toNat_add]

/-- Settles O29: the three cases of `tx_step`, with the counters' sums written in numbers. -/
theorem transmitTickAdvances : Obligations.TransmitTickAdvances := by
  intro x s hactive
  refine ⟨fun hsample => ?_, fun hsample hend => ?_, fun hsample hmore hroom hbit => ?_⟩
  · have hcounted : BitVec.ofNat 3 ((s.txSample.toNat + 1) % 8) = s.txSample + 1 := ofNat_toNat_succ_mod _
    rw [tick_sampleCounted hactive hsample, hcounted]
  · have hsent : BitVec.ofNat 8 ((s.txMsgCount.toNat + 1) % 256) = s.txMsgCount + 1 := ofNat_toNat_succ_mod _
    rw [tick_frameEnded hactive hsample hend, endOfFrame_eq, hsent]
  · have hlast : ({ s with txSample := 1 } : State).atLastSymbolBit = decide (s.txBit.toNat = 5) :=
      atLastSymbolBit_eq_decide hbit
    rw [tick_bitSent hactive hsample hmore hroom, sendBit, hlast]
    simp [State.nextTxBit, State.txByte, BitVec.ofNat_add]

/-! ### The two commands -/

/-- Settles O18: `tx_start` in any state, and after it the end of a frame that has no byte. -/
theorem txStartRestartsFrame : Obligations.TxStartRestartsFrame := by
  intro imm8 s
  refine ⟨respond .ok [] (txStart s), rfl, by rw [txStart, Bool.true_xor]; rfl, fun hempty x => ?_⟩
  have hend : (respond .ok [] (txStart s)).txLen.toNat ≤ (respond .ok [] (txStart s)).txIndex.toNat := by
    simp [hempty]
  rw [tick_frameEnded rfl rfl hend, endOfFrame_eq]
  rfl

/-- Settles O19: `tx_stop` in any state. -/
theorem txStopDeassertsAtOnce : Obligations.TxStopDeassertsAtOnce := by
  intro imm8 s
  rw [exec, execTxStop, txStop, Bool.false_xor]
  rfl

/-! ### A frame after TX_START -/

/-- Settles O36: TX_START leaves the cursor where the frame begins, and each tick leads to the frame's next state. -/
theorem transmitTiming : Obligations.TransmitTiming := by
  intro imm8 s₀ s xs h hlen n
  obtain rfl : respond .ok [] (txStart s₀) = s := Host.Outcome.next.inj h
  have hstart := onAir_zero (s := respond .ok [] (txStart s₀)) rfl rfl rfl
  have hfits : (respond .ok [] (txStart s₀)).txLen.toNat ≤ 68 := hlen
  refine ⟨fun hpos hle => ?_, fun hend => ?_⟩
  · exact ⟨_, runTicks_frame rfl hfits hstart hle, rfl, if_neg (Nat.ne_of_gt hpos), rfl, rfl, fun _ => rfl⟩
  · exact ⟨_, runTicks_frame_end rfl hfits hstart hend, rfl, rfl, Bool.false_xor _, rfl, fun _ => rfl⟩

/-! ### The return to idle -/

/-- The bits of the frame from the cursor on (43_tx_state_machine.md R154). -/
def State.bitsLeft (s : State) : Nat := 6 * (s.txLen.toNat - s.txIndex.toNat) - s.txBit.toNat

/-- The ticks until the transmitter is idle: those that bring the sample counter back to 0, eight for each bit left, and
the one that ends the frame (43_tx_state_machine.md R153; 60_exceptions.md R260). -/
def State.ticksLeft (s : State) : Nat := (8 - s.txSample.toNat) % 8 + 8 * s.bitsLeft + 1

theorem ticksLeft_le {s : State} (hs : s.Inv) : s.ticksLeft ≤ 3272 := by
  have hlen := hs.txLen_legal
  rw [State.ticksLeft, State.bitsLeft]
  omega

/-- Under the invariants no bit is left where the cursor is at the end of the frame, and only there. -/
theorem bitsLeft_eq_zero_iff {s : State} (hs : s.Inv) : s.bitsLeft = 0 ↔ s.txLen.toNat ≤ s.txIndex.toNat := by
  have hbit := hs.txBit_legal
  rw [State.bitsLeft]
  omega

/-- Emitting a bit takes one off the bits left (43_tx_state_machine.md R154). -/
theorem sendBit_bitsLeft {s : State} (hbit : s.txBit.toNat ≤ 5) (hmore : s.txIndex.toNat < s.txLen.toNat) :
    (sendBit s).bitsLeft + 1 = s.bitsLeft := by
  rw [State.bitsLeft, State.bitsLeft, sendBit_txLen, sendBit_txIndex, sendBit_txBit, atLastSymbolBit_eq_decide hbit]
  by_cases h : s.txBit.toNat = 5
  · have hindex : (s.txIndex + 1).toNat = s.txIndex.toNat + 1 := byte_succ_toNat (by omega)
    have hbit : (0 : BitVec 3).toNat = 0 := rfl
    simp only [h, decide_true, if_true, hindex, hbit]
    omega
  · have hbit : (s.txBit + 1).toNat = s.txBit.toNat + 1 := by bv_omega
    simp only [h, decide_false, Bool.false_eq_true, if_false, hbit]
    omega

/-- The last tick ends the frame. -/
theorem tick_of_ticksLeft_eq_one {s : State} (hs : s.Inv) (hactive : s.txActive = true) (hleft : s.ticksLeft = 1)
    (x : Bool) : tick x s = .next (endOfFrame { s with txSample := 1 }) := by
  rw [State.ticksLeft] at hleft
  have hsample : s.txSample = 0 := by bv_omega
  exact tick_frameEnded hactive hsample ((bitsLeft_eq_zero_iff hs).mp (by omega)) x

/-- Every tick before the last keeps the transmitter active and takes one off the ticks left. -/
theorem tick_of_one_lt_ticksLeft {s : State} (hs : s.Inv) (hactive : s.txActive = true) (hleft : 1 < s.ticksLeft)
    (x : Bool) : ∃ t, tick x s = .next t ∧ t.txActive = true ∧ t.ticksLeft + 1 = s.ticksLeft := by
  by_cases hsample : s.txSample = 0
  · have hticks : s.ticksLeft = 8 * s.bitsLeft + 1 := by simp [State.ticksLeft, hsample]
    have hmore : s.txIndex.toNat < s.txLen.toNat := by
      rw [← Nat.not_le, ← bitsLeft_eq_zero_iff hs]
      omega
    have hlen := hs.txLen_legal
    refine ⟨_, tick_bitSent hactive hsample hmore (by omega) x, hactive, ?_⟩
    have hbits : (sendBit { s with txSample := 1 }).bitsLeft + 1 = s.bitsLeft := sendBit_bitsLeft hs.txBit_legal hmore
    calc (sendBit { s with txSample := 1 }).ticksLeft + 1
        = 7 + 8 * (sendBit { s with txSample := 1 }).bitsLeft + 1 + 1 := rfl
      _ = s.ticksLeft := by omega
  · refine ⟨_, tick_sampleCounted hactive hsample x, hactive, ?_⟩
    have hcounted : (8 - (s.txSample + 1).toNat) % 8 + 1 = (8 - s.txSample.toNat) % 8 := by bv_omega
    calc ({ s with txSample := s.txSample + 1 } : State).ticksLeft + 1
        = (8 - (s.txSample + 1).toNat) % 8 + 8 * s.bitsLeft + 1 + 1 := rfl
      _ = s.ticksLeft := by rw [State.ticksLeft]; omega

/-- The transmitter stays active as long as ticks are left, whatever the samples. -/
theorem runTicks_of_lt_ticksLeft {xs : List Bool} {s : State} (hs : s.Inv) (hactive : s.txActive = true)
    (hxs : xs.length < s.ticksLeft) :
    ∃ t, runTicks xs s = .next t ∧ t.Inv ∧ t.txActive = true ∧ t.ticksLeft + xs.length = s.ticksLeft := by
  induction xs generalizing s with
  | nil => exact ⟨s, rfl, hs, hactive, rfl⟩
  | cons x xs ih =>
    rw [List.length_cons] at hxs
    obtain ⟨u, htick, huactive, huleft⟩ := tick_of_one_lt_ticksLeft hs hactive (by omega) x
    obtain ⟨t, hrun, ht, htactive, htleft⟩ := ih (tick_inv htick hs) huactive (by omega)
    refine ⟨t, (runTicks_cons htick xs).trans hrun, ht, htactive, ?_⟩
    rw [List.length_cons]
    omega

/-- Settles O41: each tick takes one off the ticks left, and the last one ends the frame. -/
theorem transmitterReturnsToIdle : Obligations.TransmitterReturnsToIdle := by
  intro s xs hs hactive left
  refine ⟨ticksLeft_le hs, fun hlt => ?_, fun hend => ?_⟩
  · obtain ⟨t, hrun, _, htactive, _⟩ := runTicks_of_lt_ticksLeft hs hactive hlt
    exact ⟨t, hrun, htactive⟩
  · obtain ⟨ys, x, rfl⟩ := (List.eq_nil_or_concat xs).resolve_left (List.ne_nil_of_length_eq_add_one hend)
    have hys : ys.length + 1 = s.ticksLeft := by rwa [List.concat_eq_append, List.length_append] at hend
    obtain ⟨t, hrun, ht, htactive, htleft⟩ := runTicks_of_lt_ticksLeft hs hactive (xs := ys) (by omega)
    have hlast := tick_of_ticksLeft_eq_one ht htactive (by omega) x
    rw [List.concat_eq_append, runTicks_append hrun, runTicks_cons hlast]
    exact ⟨_, rfl, rfl⟩

/-! ### What writes the transmit state -/

/-- Settles O54: of the commands SEND, TX_START and TX_STOP write `tx_active`, and of the ticks the end of a frame. -/
theorem transmitStateTransitions : Obligations.TransmitStateTransitions := by
  intro s t h hne
  cases step_effect h with
  | wasReset q hturn => exact .inl ⟨q, hturn⟩
  | heldSend d hheld _ hexec =>
    cases exec_effect hexec with
    | sendAccepted hlen _ => exact .inr (.inl ⟨rfl, d, hheld, hlen⟩)
    | _ => exact absurd rfl hne
  | command q i rest hturn _ hdecode hexec =>
    cases exec_effect hexec with
    | sendAccepted hlen _ => exact .inr (.inr (.inl ⟨rfl, q, _, rest, hturn, hdecode, .inl ⟨_, rfl, hlen⟩⟩))
    | txStarted imm8 => exact .inr (.inr (.inl ⟨rfl, q, _, rest, hturn, hdecode, .inr ⟨imm8, rfl⟩⟩))
    | txStopped imm8 => exact .inr (.inr (.inr (.inl ⟨rfl, q, imm8, rest, hturn, hdecode⟩)))
    | _ => exact absurd rfl hne
  | ticked x q hturn htick =>
    cases tick_effect htick with
    | frameEnded _ hsample hend => exact .inr (.inr (.inr (.inr ⟨rfl, x, q, hturn, hsample, hend⟩)))
    | bitRecovered _ _ _ hbit => exact absurd (by rw [rxBit_frame hbit]; rfl) hne
    | _ => exact absurd rfl hne
  | interfaceOnly q p r => exact absurd rfl hne

end Sys2Proof.Machine

end

/-! The bit-clock PLL from any state: one tick, eight equal ticks, and how long a frame can last. -/

section

namespace Sys2Proof.Machine

/-! ### Ticks without the receive path -/

theorem rxRuns_of_enabled_of_idle {s : State} (henabled : s.rxEnabled = true) (hidle : s.txActive = false) :
    s.rxRuns = true := by
  rw [State.rxRuns, henabled, hidle]
  rfl

/-- A tick without the receive path does not read its sample (47_tick.md R240). -/
theorem tick_eq_of_not_rxRuns {s : State} (hfrozen : s.rxRuns = false) (x y : Bool) : tick y s = tick x s := by
  have hnot : ¬ s.rxRuns = true := by simp [hfrozen]
  rw [tick, if_neg hnot, tick, if_neg hnot]

/-- A tick without the receive path writes transmit registers only (47_tick.md R240). -/
theorem tick_frame_of_not_rxRuns {x : Bool} {s t : State} (hfrozen : s.rxRuns = false) (h : tick x s = .next t) :
    t = { s with
      txActive := t.txActive, txIndex := t.txIndex, txBit := t.txBit, txSample := t.txSample, txOut := t.txOut
      pttOut := t.pttOut, txMsgCount := t.txMsgCount } := by
  rcases tick_cases h with ⟨henabled, hidle, _⟩ | ⟨_, h⟩ | ⟨_, _, rfl⟩
  · exact absurd (hfrozen.symm.trans (rxRuns_of_enabled_of_idle henabled hidle)) nofun
  · exact txStep_frame h
  · rfl

/-- Settles O33: such a tick is one of the transmit path or none, and neither reads its sample. -/
theorem receivePathFrozen : Obligations.ReceivePathFrozen := by
  intro x s t hguard h
  have hfrozen : s.rxRuns = false := by
    rcases hguard with hdisabled | hactive
    · simp [State.rxRuns, hdisabled]
    · simp [State.rxRuns, hactive]
  obtain ⟨hpll, hreceiver, henabled⟩ : SamePll s t ∧ SameReceiver s t ∧ t.rxEnabled = s.rxEnabled := by
    rw [tick_frame_of_not_rxRuns hfrozen h]
    exact ⟨⟨rfl, rfl, rfl, rfl, rfl⟩, ⟨rfl, rfl, rfl, rfl, rfl, rfl, rfl, fun _ => rfl⟩, rfl⟩
  exact ⟨hpll, hreceiver, henabled, fun y => (tick_eq_of_not_rxRuns hfrozen x y).trans h⟩

/-! ### One tick of the receive path -/

/-- The PLL's phase as the registers hold it. -/
def State.phase (s : State) : Phase := ⟨s.rxLastSample, s.rxRamp.toNat, s.rxIntegrator.toNat⟩

/-- A tick of the receive path writes its sample over the last one, so a state in its own phase stands for itself. -/
theorem tick_inPhase_phase {s : State} (hruns : s.rxRuns = true) (x : Bool) :
    tick x (s.inPhase s.phase) = tick x s := by
  have hsampled : ({ s.inPhase s.phase with rxSample := x } : State) = { s with rxSample := x } := by
    simp [State.inPhase, State.phase]
  rw [tick_eq_pllStep hruns, hsampled, tick, if_pos hruns]

/-- What the integrator holds does not steer the ramp, so `advanceRamp_inPhase` needs no bound on it. -/
theorem advanceRamp_inPhase_of_ramp_lt (s : State) {p : Phase} (hramp : p.ramp < 160) (x : Bool) :
    advanceRamp (integrate { s.inPhase p with rxSample := x }) = s.inPhase (p.advance x) := by
  have hcleared := advanceRamp_inPhase s (p := { p with ones := 0 }) ⟨hramp, Nat.zero_le _⟩ x
  calc advanceRamp (integrate { s.inPhase p with rxSample := x })
      = { advanceRamp (integrate { s.inPhase { p with ones := 0 } with rxSample := x }) with
          rxIntegrator := if x then BitVec.ofNat 8 p.ones + 1 else BitVec.ofNat 8 p.ones } := rfl
    _ = s.inPhase (p.advance x) := by
      rw [hcleared, integrator_inPhase]
      rfl

/-- A tick of the receive path whose ramp stays below its ceiling (44_pll.md R175). -/
theorem tick_of_ramp_lt {s : State} (hruns : s.rxRuns = true) (hramp : s.rxRamp.toNat < 160) {x : Bool}
    (hbelow : (s.phase.advance x).ramp < 160) : tick x s = .next (s.inPhase (s.phase.advance x)) := by
  have hcond : ¬ rampLen ≤ (s.inPhase (s.phase.advance x)).rxRamp := by
    show ¬ (160 : Byte) ≤ BitVec.ofNat 8 (s.phase.advance x).ramp
    bv_omega
  rw [← tick_inPhase_phase hruns, tick_eq_pllStep hruns, pllStep, advanceRamp_inPhase_of_ramp_lt s hramp]
  exact if_neg hcond

/-- A tick of the receive path whose ramp wraps hands the majority bit to `rx_bit` (44_pll.md R175). -/
theorem tick_of_ramp_ge {s : State} (hruns : s.rxRuns = true) (hramp : s.rxRamp.toNat < 160)
    (hones : s.rxIntegrator.toNat < 255) {x : Bool} (habove : 160 ≤ (s.phase.advance x).ramp) :
    tick x s = rxBit (State.inPhase { s with rxBits := shiftIn (s.phase.advance x).bit s.rxBits }
      (s.phase.advance x).wrap) := by
  obtain ⟨_, hgain⟩ := s.phase.gain_bounds x
  have hone := x.toNat_le
  have hhigh : (s.phase.advance x).ramp < 256 := show s.rxRamp.toNat + s.phase.gain x < 256 by omega
  have hcount : (s.phase.advance x).ones < 256 := show s.rxIntegrator.toNat + x.toNat < 256 by omega
  have hcond : rampLen ≤ (s.inPhase (s.phase.advance x)).rxRamp := by
    show (160 : Byte) ≤ BitVec.ofNat 8 (s.phase.advance x).ramp
    bv_omega
  rw [← tick_inPhase_phase hruns, tick_eq_pllStep hruns, pllStep, advanceRamp_inPhase_of_ramp_lt s hramp,
    ← wrapRamp_inPhase s habove hhigh hcount]
  exact if_pos hcond

/-- The window as a number after a bit has come in at bit 11 (44_pll.md R174). -/
theorem shiftIn_toNat (b : Bool) (w : Window) : (shiftIn b w).toNat = w.toNat / 2 + if b then 2048 else 0 := by
  have hhalf : w.toNat / 2 < 2 ^ 11 := by omega
  have hshift : (w >>> 1).toNat = w.toNat / 2 := by rw [BitVec.toNat_ushiftRight, Nat.shiftRight_one]
  rw [shiftIn, BitVec.toNat_or, hshift]
  cases b with
  | false => exact Nat.or_zero _
  | true => exact (Nat.or_comm _ _).trans ((Nat.two_pow_add_eq_or_of_lt hhalf 1).symm.trans (Nat.add_comm _ _))

theorem shiftIn_eq_ofNat (b : Bool) (w : Window) :
    shiftIn b w = BitVec.ofNat 12 (w.toNat / 2 + if b then 2048 else 0) := by
  rw [← shiftIn_toNat, BitVec.ofNat_toNat, BitVec.setWidth_eq]

/-- Settles O30: one phase to the next, with the sums written in numbers. -/
theorem pllTickIntegratesAndWraps : Obligations.PllTickIntegratesAndWraps := by
  intro x s henabled hidle hramp hones gain ramp ones
  have hruns := rxRuns_of_enabled_of_idle henabled hidle
  have hcount : ones = s.rxIntegrator.toNat + x.toNat := by cases x <;> rfl
  refine ⟨fun hbelow => ?_, fun habove => ?_⟩
  · rw [tick_of_ramp_lt hruns (Nat.lt_succ_of_le hramp) hbelow, hcount]
    rfl
  · have hwindow : shiftIn (s.phase.advance x).bit s.rxBits =
        BitVec.ofNat 12 (s.rxBits.toNat / 2 + if 5 ≤ ones then 2048 else 0) := by
      rw [shiftIn_eq_ofNat, hcount]
      simp only [Phase.bit, decide_eq_true_eq]
      rfl
    rw [tick_of_ramp_ge hruns (Nat.lt_succ_of_le hramp) hones habove, hwindow]
    rfl

/-! ### No tick of the receive path faults -/

/-- A frame the invariants allow has room for one more byte (45_rx_state_machine.md R196). -/
theorem rxLen_lt_thirty {s : State} (hs : s.Inv) (hactive : s.rxActive = true) : s.rxLen.toNat < 30 := by
  have hopen := hs.frame_open hactive
  have hlegal := hs.rxCount_legal
  omega

/-- Under the invariants a recovered bit never faults (45_rx_state_machine.md R190 to R197). -/
theorem exists_rxBit_eq_next {s : State} (hs : s.Inv) : ∃ t, rxBit s = .next t := by
  rw [rxBit]
  split
  · rename_i hactive
    have hroom : s.rxLen.toNat < maxMessageLen := rxLen_lt_thirty hs hactive
    rw [assemble]
    split
    · rw [takeByte, acceptByte, if_pos hroom]
      split
      · exact ⟨_, rfl⟩
      · split <;> exact ⟨_, rfl⟩
    · exact ⟨_, rfl⟩
  · exact ⟨_, rfl⟩

theorem exists_recoverBit_eq_next {s : State} (hs : s.Inv) (b : Bool) : ∃ t, recoverBit b s = .next t :=
  exists_rxBit_eq_next { hs with }

/-- Under the invariants a tick of the receive path never faults (44_pll.md R175). -/
theorem exists_tick_eq_next {s : State} (hs : s.Inv) (hruns : s.rxRuns = true) (x : Bool) :
    ∃ t, tick x s = .next t := by
  have hsampled : ({ s with rxSample := x } : State).Inv := { hs with }
  rw [tick, if_pos hruns, pllStep]
  split
  · rename_i hwrap
    exact exists_rxBit_eq_next (wrapRamp_inv hsampled hwrap)
  · exact ⟨_, rfl⟩

/-! ### A steady input -/

theorem runTicks_inPhase_phase {s : State} (hruns : s.rxRuns = true) (x : Bool) (xs : List Bool) :
    runTicks (x :: xs) (s.inPhase s.phase) = runTicks (x :: xs) s := by
  rw [runTicks, runTicks, tick_inPhase_phase hruns]

/-- Settles O35: from just past a wrap the eighth tick is the one that wraps, and it recovers the level of all eight. -/
theorem steadyInputGivesOneBitPerEightTicks : Obligations.SteadyInputGivesOneBitPerEightTicks := by
  intro x s hs henabled hidle hlast hramp hones
  have hruns := rxRuns_of_enabled_of_idle henabled hidle
  have hphase : s.phase = ⟨x, s.rxRamp.toNat, 0⟩ := by rw [State.phase, hlast, hones]; rfl
  obtain ⟨t, hbit⟩ := exists_recoverBit_eq_next hs x
  have hrun := runTicks_steady_wrap hruns (φ := s.rxRamp.toNat) (n := 7) (by decide) (by omega) (by omega) hbit
  have hback : s.rxRamp.toNat + 20 * 7 + 20 - 160 = s.rxRamp.toNat := by omega
  have hwindow : t.rxBits = shiftIn x s.rxBits := by rw [rxBit_frame hbit]
  rw [← hphase, List.replicate_succ, runTicks_inPhase_phase hruns, hback] at hrun
  refine ⟨_, hrun, ?_, rfl, rfl, ?_⟩
  · exact (BitVec.ofNat_toNat 8 s.rxRamp).trans (BitVec.setWidth_eq _)
  · exact (congrArg BitVec.toNat hwindow).trans (shiftIn_toNat x s.rxBits)

/-! ### How long a frame can last -/

/-- The most ticks the ramp takes to its next wrap: a tick adds at least 11 below 80 and at least 20 from 80 on
(44_pll.md R172). -/
def State.ticksToWrap (s : State) : Nat :=
  if s.rxRamp.toNat < 80 then (90 - s.rxRamp.toNat) / 11 + 4 else (179 - s.rxRamp.toNat) / 20

theorem ticksToWrap_le (s : State) : s.ticksToWrap ≤ 12 := by
  rw [State.ticksToWrap]
  split <;> omega

theorem ticksToWrap_pos {s : State} (hramp : s.rxRamp.toNat ≤ 159) : 1 ≤ s.ticksToWrap := by
  rw [State.ticksToWrap]
  split <;> omega

/-- A tick that does not wrap brings the wrap nearer. -/
theorem ticksToWrap_advanceRamp_lt {s : State} (hramp : s.rxRamp.toNat ≤ 159)
    (hbelow : ¬ rampLen ≤ s.rxRamp + s.rampGain) : (advanceRamp (integrate s)).ticksToWrap < s.ticksToWrap := by
  obtain ⟨hslow, _, hfast⟩ := rampGain_bounds s
  have hnext : (advanceRamp (integrate s)).rxRamp.toNat = s.rxRamp.toNat + s.rampGain.toNat := advance_toNat hramp
  have hlow : s.rxRamp.toNat + s.rampGain.toNat < 160 := by
    rw [← advance_toNat hramp]
    rwa [BitVec.le_def, Nat.not_le] at hbelow
  rw [State.ticksToWrap, State.ticksToWrap, hnext]
  split <;> split <;> omega

/-- The recovered bits a frame can still take: twelve for each byte `RxBuf` has room for, less those of the current byte
(45_rx_state_machine.md R193). -/
def State.frameBitsLeft (s : State) : Nat := 12 * (30 - s.rxLen.toNat) - s.rxBitCount.toNat

theorem frameBitsLeft_pos {s : State} (hs : s.Inv) (hactive : s.rxActive = true) : 1 ≤ s.frameBitsLeft := by
  have hroom := rxLen_lt_thirty hs hactive
  have hcount := hs.rxBitCount_legal
  rw [State.frameBitsLeft]
  omega

/-- A recovered bit takes the receiver out of the frame or is one bit less to come. -/
theorem rxBit_frameBitsLeft {s t : State} (hs : s.Inv) (hactive : s.rxActive = true) (h : rxBit s = .next t) :
    t.rxActive = false ∨ t.frameBitsLeft + 1 = s.frameBitsLeft := by
  have hroom := rxLen_lt_thirty hs hactive
  have hcount := hs.rxBitCount_legal
  cases rxBit_effect h with
  | startFound hidle _ => exact absurd (hactive.symm.trans hidle) nofun
  | searched hidle _ => exact .inl hidle
  | bitCounted _ hmore =>
    have hnext : (s.rxBitCount + 1).toNat = s.rxBitCount.toNat + 1 := by bv_omega
    refine .inr ?_
    show 12 * (30 - s.rxLen.toNat) - (s.rxBitCount + 1).toNat + 1 = s.frameBitsLeft
    rw [hnext, State.frameBitsLeft]
    omega
  | frameAborted _ _ _ => exact .inl rfl
  | frameCompleted _ _ _ _ _ => exact .inl rfl
  | byteStored _ htwelfth _ _ _ =>
    have hlast : s.rxBitCount.toNat = 11 := by bv_omega
    refine .inr ?_
    show 12 * (30 - s.withByteStored.rxLen.toNat) - 0 + 1 = s.frameBitsLeft
    rw [withByteStored_rxLen_toNat hroom, State.frameBitsLeft, hlast]
    omega

/-- The ticks within which a frame ends: those to the next wrap, and twelve for each bit after the one it recovers. -/
def State.frameTicksLeft (s : State) : Nat := s.ticksToWrap + 12 * s.frameBitsLeft - 12

theorem frameTicksLeft_le (s : State) : s.frameTicksLeft ≤ (30 - s.rxLen.toNat) * 144 := by
  have hwrap := ticksToWrap_le s
  rw [State.frameTicksLeft, State.frameBitsLeft]
  omega

theorem frameTicksLeft_pos {s : State} (hs : s.Inv) (hactive : s.rxActive = true) : 0 < s.frameTicksLeft := by
  have hbits := frameBitsLeft_pos hs hactive
  have hwrap := ticksToWrap_pos hs.rxRamp_legal
  rw [State.frameTicksLeft]
  omega

/-- A step of the PLL takes the receiver out of the frame or brings the frame's end nearer. -/
theorem pllStep_frameTicksLeft_lt {s t : State} (hs : s.Inv) (hactive : s.rxActive = true) (h : pllStep s = .next t) :
    t.rxActive = false ∨ t.frameTicksLeft < s.frameTicksLeft := by
  have hpos := frameTicksLeft_pos hs hactive
  have hnow := ticksToWrap_pos hs.rxRamp_legal
  rcases pllStep_cases h with ⟨hwrap, hbit⟩ | ⟨hbelow, rfl⟩
  · refine (rxBit_frameBitsLeft (wrapRamp_inv hs hwrap) hactive hbit).imp_right fun hbits => ?_
    have hbits : t.frameBitsLeft + 1 = s.frameBitsLeft := hbits
    have hnext := ticksToWrap_le t
    rw [State.frameTicksLeft, State.frameTicksLeft]
    omega
  · have hnearer := ticksToWrap_advanceRamp_lt hs.rxRamp_legal hbelow
    have hbits : (advanceRamp (integrate s)).frameBitsLeft = s.frameBitsLeft := rfl
    rw [State.frameTicksLeft] at hpos
    rw [State.frameTicksLeft, State.frameTicksLeft, hbits]
    omega

/-- The same of a tick, whatever it samples. -/
theorem tick_frameTicksLeft_lt {x : Bool} {s t : State} (hs : s.Inv) (hruns : s.rxRuns = true)
    (hactive : s.rxActive = true) (h : tick x s = .next t) :
    t.rxActive = false ∨ t.frameTicksLeft < s.frameTicksLeft := by
  rw [tick, if_pos hruns] at h
  exact pllStep_frameTicksLeft_lt (s := { s with rxSample := x }) { hs with } hactive h

theorem tick_rxRuns {x : Bool} {s t : State} (hruns : s.rxRuns = true) (h : tick x s = .next t) : t.rxRuns = true := by
  rw [tick, if_pos hruns] at h
  rw [pllStep_frame h]
  exact hruns

/-- A frame ends within the ticks counted for it, whatever the samples. -/
theorem exists_runTicks_take_rxActive_eq_false {xs : List Bool} {s : State} (hs : s.Inv) (hruns : s.rxRuns = true)
    (hactive : s.rxActive = true) (hxs : s.frameTicksLeft ≤ xs.length) :
    ∃ k t, k ≤ s.frameTicksLeft ∧ runTicks (xs.take k) s = .next t ∧ t.rxActive = false := by
  induction xs generalizing s with
  | nil => exact absurd hxs (Nat.not_le_of_lt (frameTicksLeft_pos hs hactive))
  | cons x xs ih =>
    rw [List.length_cons] at hxs
    obtain ⟨u, htick⟩ := exists_tick_eq_next hs hruns x
    cases huactive : u.rxActive with
    | false => exact ⟨1, u, frameTicksLeft_pos hs hactive, runTicks_cons htick [], huactive⟩
    | true =>
      have hless := (tick_frameTicksLeft_lt hs hruns hactive htick).resolve_left (by simp [huactive])
      obtain ⟨k, t, hk, hrun, ht⟩ := ih (tick_inv htick hs) (tick_rxRuns hruns htick) huactive (by omega)
      exact ⟨k + 1, t, by omega, (runTicks_cons htick _).trans hrun, ht⟩

/-- Settles O42: twelve bits to a byte and at most twelve ticks to a bit. -/
theorem receiverLeavesFrame : Obligations.ReceiverLeavesFrame := by
  intro s xs hs henabled hidle hactive hxs
  have hruns := rxRuns_of_enabled_of_idle henabled hidle
  have hle := frameTicksLeft_le s
  obtain ⟨k, t, hk, hrun, ht⟩ := exists_runTicks_take_rxActive_eq_false hs hruns hactive (hle.trans hxs)
  exact ⟨k, t, hk.trans hle, hrun, ht⟩

end Sys2Proof.Machine

end

/-! The receive state machine: one recovered bit, a pending message, and what `RxBuf` cannot tell. -/

section

namespace Sys2Proof.Machine

/-! ### Searching -/

theorem rxBit_of_idle {s : State} (hidle : s.rxActive = false) : rxBit s = .next (search s) :=
  if_neg (by simp [hidle])

theorem search_of_start {s : State} (hstart : s.rxBits = startPattern) : search s = startDetected s := if_pos hstart

theorem search_of_other {s : State} (hother : s.rxBits ≠ startPattern) : search s = s := if_neg hother

/-- Settles O31: outside a frame `rx_bit` is the search, which looks for the start pattern and nothing else. -/
theorem searchDetectsStartPattern : Obligations.SearchDetectsStartPattern := by
  intro s hidle
  refine ⟨fun hstart => ?_, fun hother => ?_⟩
  · rw [rxBit_of_idle hidle, search_of_start hstart]
    rfl
  · rw [rxBit_of_idle hidle, search_of_other hother]

/-! ### The byte in the window -/

theorem firstSymbol_eq_ofNat (w : Window) : firstSymbol w = BitVec.ofNat 6 w.toNat := by
  apply BitVec.eq_of_toNat_eq
  simp [firstSymbol]

theorem secondSymbol_eq_ofNat (w : Window) : secondSymbol w = BitVec.ofNat 6 (w.toNat / 64) := by
  apply BitVec.eq_of_toNat_eq
  simp [secondSymbol, Nat.shiftRight_eq_div_pow]

theorem byteOfNibbles_toNat (hi lo : Nibble) : (byteOfNibbles hi lo).toNat = 16 * hi.toNat + lo.toNat := by
  rw [byteOfNibbles, BitVec.toNat_append, ← Nat.shiftLeft_add_eq_or_of_lt lo.isLt, Nat.shiftLeft_eq, Nat.mul_comm]

theorem windowByte_toNat (s : State) : s.windowByte.toNat =
    16 * (dec6 s.config (BitVec.ofNat 6 (s.rxBits.toNat / 64))).1.toNat +
      (dec6 s.config (BitVec.ofNat 6 s.rxBits.toNat)).1.toNat := by
  rw [State.windowByte, byteOfNibbles_toNat, firstSymbol_eq_ofNat, secondSymbol_eq_ofNat]

theorem windowValid_eq_false_iff (s : State) : s.windowValid = false ↔
    (dec6 s.config (BitVec.ofNat 6 s.rxBits.toNat)).2 = false ∨
      (dec6 s.config (BitVec.ofNat 6 (s.rxBits.toNat / 64))).2 = false := by
  rw [State.windowValid, Bool.and_eq_false_iff, firstSymbol_eq_ofNat, secondSymbol_eq_ofNat]

theorem badCount_eq_true_iff (b : Byte) : badCount b = true ↔ b.toNat < 4 ∨ 30 < b.toNat := by
  rw [← Bool.not_eq_false, badCount_eq_false_iff]
  omega

/-! ### The twelfth bit -/

/-- The byte in the window is rejected by the symbol check of strict mode (45_rx_state_machine.md R194). -/
def State.SymbolsRejected (s : State) : Prop := s.config.strictSymbolCheck = true ∧ s.windowValid = false

/-- The byte in the window is rejected as the `count` of a frame (45_rx_state_machine.md R195). -/
def State.CountRejected (s : State) : Prop := s.rxLen = 0 ∧ badCount s.windowByte = true

theorem symbolsRejected_iff (s : State) : s.SymbolsRejected ↔ s.config.strictSymbolCheck = true ∧
    ((dec6 s.config (BitVec.ofNat 6 s.rxBits.toNat)).2 = false ∨
      (dec6 s.config (BitVec.ofNat 6 (s.rxBits.toNat / 64))).2 = false) :=
  and_congr_right fun _ => windowValid_eq_false_iff s

theorem countRejected_iff (s : State) :
    s.CountRejected ↔ s.rxLen.toNat = 0 ∧ (s.windowByte.toNat < 4 ∨ 30 < s.windowByte.toNat) :=
  and_congr BitVec.toNat_eq (badCount_eq_true_iff _)

theorem awaitedCount_toNat (s : State) :
    s.awaitedCount.toNat = if s.rxLen.toNat = 0 then s.windowByte.toNat else s.rxCount.toNat := by
  rw [State.awaitedCount, apply_ite BitVec.toNat]
  exact if_congr BitVec.toNat_eq rfl rfl

theorem rxBit_count {s : State} (hactive : s.rxActive = true) (hcount : s.rxBitCount.toNat < 11) :
    rxBit s = .next { s with rxBitCount := s.rxBitCount + 1 } := by
  have hmore : ¬ s.rxBitCount + 1 = bitWindowBits := by
    show ¬ s.rxBitCount + 1 = 12
    bv_omega
  rw [rxBit, if_pos hactive, assemble, if_neg hmore]

theorem rxBit_twelfth {s : State} (hactive : s.rxActive = true) (hcount : s.rxBitCount.toNat = 11) :
    rxBit s = takeByte { s with rxBitCount := 0 } := by
  have hlast : s.rxBitCount + 1 = bitWindowBits := by
    show s.rxBitCount + 1 = 12
    bv_omega
  rw [rxBit, if_pos hactive, assemble, if_pos hlast]

/-- Either check rejects the byte in the same way: nothing is stored (45_rx_state_machine.md R194, R195). -/
theorem takeByte_of_rejected {s : State} (h : s.SymbolsRejected ∨ s.CountRejected) :
    takeByte s = .next (countAbort s) := by
  rw [takeByte]
  split
  · rfl
  · rename_i hvalid
    rcases h with ⟨hstrict, hinvalid⟩ | ⟨hzero, hbad⟩
    · exact absurd (by simp [hstrict, hinvalid]) hvalid
    · exact if_pos (by simp [hzero, hbad])

theorem takeByte_of_not_rejected {s : State} (hsymbols : ¬ s.SymbolsRejected) (hcount : ¬ s.CountRejected) :
    takeByte s = acceptByte s.windowByte s := by
  rw [takeByte, if_neg (by simpa [State.SymbolsRejected] using hsymbols),
    if_neg (by simpa [State.CountRejected] using hcount)]

/-- A byte that no check rejects is stored, and the last of its frame completes it (45_rx_state_machine.md R196,
R197). -/
theorem rxBit_store {s : State} (hactive : s.rxActive = true) (hcount : s.rxBitCount.toNat = 11)
    (hsymbols : ¬ s.SymbolsRejected) (hfirst : ¬ s.CountRejected) (hroom : s.rxLen.toNat < 30) :
    rxBit s = .next
      (if s.rxLen + 1 = s.awaitedCount then completeFrame s.withByteStored else s.withByteStored) := by
  rw [rxBit_twelfth hactive hcount, takeByte_of_not_rejected (s := { s with rxBitCount := 0 }) hsymbols hfirst]
  exact if_pos hroom

/-- A recovered bit leaves the transmitter, the PLL and the host's side alone (45_rx_state_machine.md R190). -/
theorem rxBit_keeps_rest {s t : State} (h : rxBit s = .next t) :
    SameTransmitter s t ∧ SamePll s t ∧ SameHostSide s t := by
  rw [rxBit_frame h]
  exact ⟨⟨rfl, rfl, rfl, rfl, rfl, rfl, rfl, rfl, fun _ => rfl⟩, ⟨rfl, rfl, rfl, rfl, rfl⟩,
    ⟨rfl, rfl, rfl, rfl, rfl, rfl, rfl⟩⟩

/-- `RxBuf` after the store of the byte in the window: that byte at `rx_len`, every other byte as before. -/
theorem withByteStored_rxByte {s : State} (hwf : s.rxBuf.wf) (a : Nat) :
    s.withByteStored.rxByte a = if a = s.rxLen.toNat then s.windowByte else s.rxByte a :=
  storeByte_rxByte (s := captureCount s.windowByte { s with rxBitCount := 0 }) hwf _ a

/-- Settles O32: the twelfth bit has the byte in the window checked, and either rejected or stored. -/
theorem assemblyTakesTwelveBits : Obligations.AssemblyTakesTwelveBits := by
  intro s hactive
  refine ⟨rxBit_count hactive, fun htwelfth hroom hwf => ?_⟩
  intro lo hi byte strictBad countBad count
  have hbyte : s.windowByte.toNat = byte := windowByte_toNat s
  have hsymbols : s.SymbolsRejected ↔ strictBad := symbolsRejected_iff s
  have hfirst : s.CountRejected ↔ countBad := by rw [countRejected_iff, hbyte]
  have hcount : s.awaitedCount.toNat = count := by rw [awaitedCount_toNat, hbyte]
  refine ⟨fun hbad => ?_, fun hvalid hlegal => ?_⟩
  · rw [rxBit_twelfth hactive htwelfth]
    exact takeByte_of_rejected (s := { s with rxBitCount := 0 }) (hbad.imp hsymbols.mpr hfirst.mpr)
  · have hbit := rxBit_store hactive htwelfth (hsymbols.not.mpr hvalid) (hfirst.not.mpr hlegal) hroom
    have hrest := rxBit_keeps_rest hbit
    refine ⟨_, hbit, ?_⟩
    have hstored : s.withByteStored.rxByte s.rxLen.toNat = BitVec.ofNat 8 byte := by
      rw [withByteStored_rxByte hwf, if_pos rfl, ← hbyte, BitVec.ofNat_toNat, BitVec.setWidth_eq]
    have hothers : ∀ a, a ≠ s.rxLen.toNat → s.withByteStored.rxByte a = s.rxByte a := fun a ha => by
      rw [withByteStored_rxByte hwf, if_neg ha]
    have hlen := withByteStored_rxLen_toNat hroom
    have hlast : s.rxLen + 1 = s.awaitedCount ↔ s.rxLen.toNat + 1 = count := by
      rw [BitVec.toNat_eq, hcount, byte_succ_toNat (by omega)]
    by_cases hend : s.rxLen + 1 = s.awaitedCount
    · rw [if_pos hend] at hrest ⊢
      exact ⟨hstored, hothers, hlen, hcount, rfl, rfl, fun _ => ⟨rfl, rfl, rfl⟩,
        fun hne => absurd (hlast.mp hend) hne, hrest⟩
    · rw [if_neg hend] at hrest ⊢
      exact ⟨hstored, hothers, hlen, hcount, rfl, rfl, fun he => absurd (hlast.mpr he) hend,
        fun _ => ⟨hactive, rfl, rfl⟩, hrest⟩

/-! ### A pending message -/

/-- A recovered bit outside a frame that leaves a message pending is only searched (45_rx_state_machine.md R191,
R192). -/
theorem rxBit_eq_self_of_pending {s t : State} (h : rxBit s = .next t) (hidle : s.rxActive = false)
    (hdone : t.rxDone = true) : t = s := by
  rw [rxBit_of_idle hidle] at h
  cases h
  refine search_of_other fun hstart => ?_
  rw [search_of_start hstart] at hdone
  cases hdone

/-- Settles O49: a pending message means that no frame is being received, so the only recovered bits are searched. -/
theorem pendingMessageIsStable : Obligations.PendingMessageIsStable := by
  intro s t hs h hpending hdone
  have hidle : s.rxActive = false := (hs.message hpending).1
  cases step_effect h with
  | heldSend d _ _ hexec => rw [exec_frame hexec]; exact ⟨rfl, rfl, fun _ => rfl⟩
  | command q i rest _ _ _ hexec => rw [exec_frame hexec]; exact ⟨rfl, rfl, fun _ => rfl⟩
  | ticked x q _ htick =>
    cases tick_effect htick with
    | bitRecovered _ _ _ hbit =>
      rw [rxBit_eq_self_of_pending hbit hidle hdone]
      exact ⟨rfl, rfl, fun _ => rfl⟩
    | _ => exact ⟨rfl, rfl, fun _ => rfl⟩
  | wasReset q _ => cases hdone
  | interfaceOnly q p r => exact ⟨rfl, rfl, fun _ => rfl⟩

/-! ### Outcomes that differ in unwritten bytes -/

/-- `s` with other contents of `RxBuf`. -/
def State.withRxBuf (s : State) (m : Memory) : State := { s with rxBuf := m }

/-- `m` can stand for `RxBuf` in `s`: both are canonical and agree on the bytes the current frame has written. -/
structure HoldsFrame (m : Memory) (s : State) : Prop where
  rxBuf_wf : s.rxBuf.wf
  wf : m.wf
  written : ∀ a, a < s.rxLen.toNat → m.read a = s.rxByte a

/-- Outcomes that differ at most in bytes of `RxBuf` the current frame has not written
(70_reset_and_hazards.md R282). -/
inductive OutcomesAgree : Result → Result → Prop
  | next {s t : State} (h : AgreeOnFrame s t) : OutcomesAgree (.next s) (.next t)
  | fault (f : Fault) : OutcomesAgree (.fault f) (.fault f)

theorem OutcomesAgree.exists_next {s : State} {r : Result} (h : OutcomesAgree (.next s) r) :
    ∃ t, r = .next t ∧ AgreeOnFrame s t := by
  cases h with
  | next h => exact ⟨_, rfl, h⟩

theorem OutcomesAgree.eq_fault {f : Fault} {r : Result} (h : OutcomesAgree (.fault f) r) : r = .fault f := by
  cases h
  rfl

/-- Two runs that take the same branch agree where the branches do. -/
theorem OutcomesAgree.ite {c : Prop} [Decidable c] {r₁ r₂ r₁' r₂' : Result} (hpos : c → OutcomesAgree r₁ r₁')
    (hneg : ¬ c → OutcomesAgree r₂ r₂') : OutcomesAgree (if c then r₁ else r₂) (if c then r₁' else r₂') := by
  split
  · exact hpos ‹_›
  · exact hneg ‹_›

theorem OutcomesAgree.next_ite {c : Prop} [Decidable c] {s₁ s₂ t₁ t₂ : State}
    (hpos : OutcomesAgree (.next s₁) (.next t₁)) (hneg : OutcomesAgree (.next s₂) (.next t₂)) :
    OutcomesAgree (.next (if c then s₁ else s₂)) (.next (if c then t₁ else t₂)) := by
  split
  · exact hpos
  · exact hneg

/-! ### No operation reads an unwritten byte -/

section
variable {m : Memory} {s : State} (h : HoldsFrame m s)
include h

/-- What leaves `RxBuf` alone and does not lengthen the frame keeps the agreement. -/
theorem HoldsFrame.of_kept {u : State} (hbuf : u.rxBuf = s.rxBuf) (hlen : u.rxLen.toNat ≤ s.rxLen.toNat) :
    HoldsFrame m u where
  rxBuf_wf := hbuf ▸ h.rxBuf_wf
  wf := h.wf
  written a ha := by
    rw [State.rxByte, hbuf]
    exact h.written a (ha.trans_le hlen)

theorem HoldsFrame.next : OutcomesAgree (.next s) (.next (s.withRxBuf m)) := .next ⟨rfl, h.written⟩

theorem HoldsFrame.next_of_kept {u : State} (hbuf : u.rxBuf = s.rxBuf) (hlen : u.rxLen.toNat ≤ s.rxLen.toNat) :
    OutcomesAgree (.next u) (.next (u.withRxBuf m)) :=
  (h.of_kept hbuf hlen).next

/-! #### Recovered bits -/

/-- The store writes the same byte at the end of the same frame (45_rx_state_machine.md R196). -/
theorem holdsFrame_storeByte (hroom : s.rxLen.toNat < 30) (b : Byte) :
    HoldsFrame (m.write s.rxLen.toNat b) (storeByte b s) where
  rxBuf_wf := storeByte_rxBuf_wf h.rxBuf_wf b
  wf := Memory.wf_write h.wf _ _
  written a ha := by
    have hlen : (storeByte b s).rxLen.toNat = s.rxLen.toNat + 1 := byte_succ_toNat (by omega)
    rw [Memory.read_write h.wf, storeByte_rxByte h.rxBuf_wf]
    exact ite_congr rfl (fun _ => rfl) fun hne => h.written a (by omega)

theorem acceptByte_agree (b : Byte) : OutcomesAgree (acceptByte b s) (acceptByte b (s.withRxBuf m)) := by
  have hcaptured : HoldsFrame m (captureCount b s) := h.of_kept rfl le_rfl
  refine .ite (fun hroom => ?_) fun _ => .fault _
  have hstored := holdsFrame_storeByte hcaptured hroom b
  exact .next_ite (hstored.next_of_kept (u := completeFrame _) rfl le_rfl) hstored.next

theorem takeByte_agree : OutcomesAgree (takeByte s) (takeByte (s.withRxBuf m)) :=
  .ite (fun _ => h.next_of_kept (u := strictAbort s) rfl le_rfl) fun _ =>
    .ite (fun _ => h.next_of_kept (u := countAbort s) rfl le_rfl) fun _ => acceptByte_agree h s.windowByte

theorem assemble_agree : OutcomesAgree (assemble s) (assemble (s.withRxBuf m)) :=
  .ite (fun _ => takeByte_agree (h.of_kept (u := { s with rxBitCount := 0 }) rfl le_rfl)) fun _ =>
    h.next_of_kept (u := { s with rxBitCount := s.rxBitCount + 1 }) rfl le_rfl

/-- A recovered bit reads no byte of `RxBuf`, and a start detection shortens the frame to nothing
(45_rx_state_machine.md R190 to R197). -/
theorem rxBit_agree : OutcomesAgree (rxBit s) (rxBit (s.withRxBuf m)) :=
  .ite (fun _ => assemble_agree h) fun _ =>
    .next_ite (h.next_of_kept (u := startDetected s) rfl (Nat.zero_le _)) h.next

/-! #### Ticks -/

/-- `RxBuf` is no part of the PLL (44_pll.md R175). -/
theorem pllStep_agree : OutcomesAgree (pllStep s) (pllStep (s.withRxBuf m)) :=
  .ite (fun _ => rxBit_agree (h.of_kept (u := wrapRamp (advanceRamp (integrate s))) rfl le_rfl)) fun _ =>
    h.next_of_kept (u := advanceRamp (integrate s)) rfl le_rfl

/-- `RxBuf` is no part of the transmitter (43_tx_state_machine.md R153). -/
theorem txStep_agree : OutcomesAgree (txStep s) (txStep (s.withRxBuf m)) := by
  have hcounted : HoldsFrame m { s with txSample := s.txSample + 1 } := h.of_kept rfl le_rfl
  exact .ite (fun _ => .ite (fun _ => hcounted.next_of_kept (u := endOfFrame _) rfl le_rfl) fun _ =>
    .ite (fun _ => hcounted.next_of_kept (u := sendBit _) rfl le_rfl) fun _ => .fault _) fun _ => hcounted.next

theorem tick_agree (x : Bool) : OutcomesAgree (tick x s) (tick x (s.withRxBuf m)) :=
  .ite (fun _ => pllStep_agree (h.of_kept (u := { s with rxSample := x }) rfl le_rfl)) fun _ =>
    .ite (fun _ => txStep_agree h) fun _ => h.next

/-! #### Commands -/

theorem HoldsFrame.rxBytes_eq {a n : Nat} (hn : a + n ≤ s.rxLen.toNat) :
    (s.withRxBuf m).rxBytes a n = s.rxBytes a n :=
  List.map_congr_left fun k hk => h.written (a + k) (by rw [List.mem_range] at hk; omega)

theorem HoldsFrame.crcOk_eq : (s.withRxBuf m).crcOk = s.crcOk :=
  congrArg (crcBlock · == crcResidue) (h.rxBytes_eq (Nat.zero_add _).le)

theorem HoldsFrame.messageData_eq (hlen : 3 ≤ s.rxLen.toNat) (maxLen : Byte) :
    (s.withRxBuf m).messageData maxLen = s.messageData maxLen := by
  have hwithin : 1 + min maxLen.toNat (s.rxLen.toNat - 3) ≤ s.rxLen.toNat := by omega
  exact h.rxBytes_eq hwithin

/-- GET_MESSAGE reads bytes of the pending message only (46_host_commands.md R219). -/
theorem execGetMessage_agree (maxLen : Byte) :
    OutcomesAgree (execGetMessage maxLen s) (execGetMessage maxLen (s.withRxBuf m)) := by
  refine .ite (fun _ => ?_) fun _ => h.next_of_kept (u := respond .notReady [] s) rfl le_rfl
  refine .ite (fun _ => .fault _) fun hlen => .ite (fun _ => .fault _) fun _ => ?_
  rw [h.messageData_eq (Nat.le_of_not_lt hlen), h.crcOk_eq]
  exact h.next_of_kept rfl le_rfl

theorem execSend_agree (d : List Byte) : OutcomesAgree (execSend d s) (execSend d (s.withRxBuf m)) :=
  .ite (fun _ => h.next_of_kept (u := respond .payloadTooLong [] s) rfl le_rfl) fun _ =>
    .ite (fun _ => h.next_of_kept (u := hold d s) rfl le_rfl) fun _ =>
      h.next_of_kept (u := respond .ok [] (txStart (frameBuild d s))) rfl le_rfl

theorem execReadStatus_agree (sel : Byte) :
    OutcomesAgree (execReadStatus sel s) (execReadStatus sel (s.withRxBuf m)) := by
  unfold execReadStatus
  split <;> exact h.next_of_kept rfl le_rfl

/-- Of the commands only GET_MESSAGE reads `RxBuf` (46_host_commands.md R223). -/
theorem exec_agree (i : Instr) : OutcomesAgree (exec i s) (exec i (s.withRxBuf m)) := by
  cases i with
  | send d => exact execSend_agree h d
  | txStart _ => exact h.next_of_kept (u := respond .ok [] (txStart s)) rfl le_rfl
  | txStop _ => exact h.next_of_kept (u := respond .ok [] (txStop s)) rfl le_rfl
  | rxStart _ => exact h.next_of_kept (u := respond .ok [] { s with rxEnabled := true, rxActive := _ }) rfl le_rfl
  | rxStop _ => exact h.next_of_kept (u := respond .ok [] { s with rxEnabled := false }) rfl le_rfl
  | haveMessage _ => exact h.next_of_kept (u := respond .ok [byteOfBool s.rxDone] s) rfl le_rfl
  | getMessage maxLen => exact execGetMessage_agree h maxLen
  | setPttInverted _ inv =>
    exact h.next_of_kept (u := respond .ok [] { s with pttInverted := invOperand inv }) rfl le_rfl
  | readStatus sel => exact execReadStatus_agree h sel

/-! #### Steps -/

theorem hostTurn_agree : OutcomesAgree (hostTurn s) (hostTurn (s.withRxBuf m)) := by
  have hport : (s.withRxBuf m).port = s.port := rfl
  rw [hostTurn, hostTurn, hport]
  rcases decode s.port with (_ | _) | ⟨i, rest⟩
  case error.reservedOpcode =>
    exact h.next_of_kept (u := respond .illegalCommand [] { s with port := s.port.drop 2 }) rfl le_rfl
  case error.incomplete => exact h.next
  case ok => exact exec_agree (h.of_kept (u := { s with port := rest }) rfl le_rfl) i

theorem takeTurn_agree (t : Turn) : OutcomesAgree (takeTurn t s) (takeTurn t (s.withRxBuf m)) := by
  cases t with
  | tick x => exact tick_agree h x
  | host => exact .ite (fun _ => h.next) fun _ => hostTurn_agree h
  | reset => exact .next ⟨rfl, fun _ _ => rfl⟩

theorem scheduledStep_agree : OutcomesAgree (scheduledStep s) (scheduledStep (s.withRxBuf m)) := by
  have hschedule : (s.withRxBuf m).schedule = s.schedule := rfl
  rw [scheduledStep, scheduledStep, hschedule]
  cases s.schedule with
  | nil => exact h.next
  | cons t q => exact takeTurn_agree (h.of_kept (u := { s with schedule := q }) rfl le_rfl) t

theorem step_agree : OutcomesAgree (step s) (step (s.withRxBuf m)) := by
  have hheld : (s.withRxBuf m).held = s.held := rfl
  rw [step, nextStep, step, nextStep, hheld]
  cases s.held with
  | none => exact scheduledStep_agree h
  | some d =>
    exact .ite (fun _ => scheduledStep_agree h) fun _ =>
      exec_agree (h.of_kept (u := { s with held := none }) rfl le_rfl) (.send d)

end

/-- Settles O48: every step reads and writes `RxBuf` within the current frame, which both buffers hold. -/
theorem unwrittenRxBytesNeverMatter : Obligations.UnwrittenRxBytesNeverMatter := by
  intro s t hs ht hagree
  obtain ⟨helsewhere, hwritten⟩ := hagree
  have hsteps : OutcomesAgree (step s) (step t) := by
    rw [helsewhere]
    exact step_agree ⟨hs, ht, hwritten⟩
  refine ⟨fun s' hnext => ?_, fun f hfault => ?_⟩
  · rw [hnext] at hsteps
    exact hsteps.exists_next
  · rw [hfault] at hsteps
    exact hsteps.eq_fault

end Sys2Proof.Machine

end

/-! The host commands: what each one does, what it leaves alone, and how a turn of the host agent issues it. -/

section

namespace Sys2Proof.Machine

/-! ### SEND -/

theorem execSend_of_long {d : List Byte} (hlong : 27 < d.length) (s : State) :
    execSend d s = .next (respond .payloadTooLong [] s) :=
  if_pos hlong

theorem execSend_of_active {d : List Byte} {s : State} (hlen : d.length ≤ 27) (hactive : s.txActive = true) :
    execSend d s = .next (hold d s) := by
  rw [execSend, if_neg (Nat.not_lt.mpr hlen), if_pos hactive]

/-- Settles O15: the length check comes before the test of the transmitter. -/
theorem sendRejectsLongPayload : Obligations.SendRejectsLongPayload :=
  fun _ s hlong => execSend_of_long hlong s

/-- Settles O16: a payload that passes the length check meets the active transmitter. -/
theorem sendHoldsWhileActive : Obligations.SendHoldsWhileActive :=
  fun _ _ hlen hactive => execSend_of_active hlen hactive

/-- Settles O17: what FRAME_BUILD stores, with `tx_start` after it, which writes neither `TxBuf` nor `tx_len`. -/
theorem sendBuildsAndStarts : Obligations.SendBuildsAndStarts := by
  intro d s hlen hidle hwf
  refine ⟨_, execSend_of_idle hlen hidle, frameBuild_txLen_toNat hlen s, fun a ha => ?_, fun a ha => ?_, ?_⟩
  · exact (frameBuild_txByte hwf d a).trans (if_pos ha)
  · exact (frameBuild_txByte hwf d a).trans (if_neg (by omega))
  · rw [txStart, Bool.true_xor]
    rfl

/-! ### RX_START and RX_STOP -/

/-- RX_START enables a disabled receiver and discards what it had begun (46_host_commands.md R216). -/
theorem execRxStart_of_disabled {s : State} (hdisabled : s.rxEnabled = false) (imm8 : Byte) :
    execRxStart imm8 s = .next (respond .ok [] { s with rxEnabled := true, rxActive := false }) := by
  rw [execRxStart, hdisabled]
  rfl

/-- RX_START of an enabled receiver is answered and nothing else happens (46_host_commands.md R216). -/
theorem execRxStart_of_enabled {s : State} (henabled : s.rxEnabled = true) (imm8 : Byte) :
    execRxStart imm8 s = .next (respond .ok [] s) := by
  rw [execRxStart, if_pos henabled, ← henabled]

/-- Settles O20: RX_START of a disabled and of an enabled receiver. -/
theorem rxStartDiscardsStaleFrame : Obligations.RxStartDiscardsStaleFrame :=
  fun imm8 _ => ⟨fun hdisabled => execRxStart_of_disabled hdisabled imm8,
    fun henabled => execRxStart_of_enabled henabled imm8⟩

theorem SamePll.trans {s t u : State} (hst : SamePll s t) (htu : SamePll t u) : SamePll s u where
  rxSample := htu.rxSample.trans hst.rxSample
  rxLastSample := htu.rxLastSample.trans hst.rxLastSample
  rxRamp := htu.rxRamp.trans hst.rxRamp
  rxIntegrator := htu.rxIntegrator.trans hst.rxIntegrator
  rxBits := htu.rxBits.trans hst.rxBits

theorem SameReceiver.trans {s t u : State} (hst : SameReceiver s t) (htu : SameReceiver t u) : SameReceiver s u where
  rxBitCount := htu.rxBitCount.trans hst.rxBitCount
  rxActive := htu.rxActive.trans hst.rxActive
  rxCount := htu.rxCount.trans hst.rxCount
  rxLen := htu.rxLen.trans hst.rxLen
  rxDone := htu.rxDone.trans hst.rxDone
  rxGood := htu.rxGood.trans hst.rxGood
  rxBad := htu.rxBad.trans hst.rxBad
  rxByte a := (htu.rxByte a).trans (hst.rxByte a)

/-- What a run that begins with a tick does: that tick, and the rest of the run after it. -/
theorem exists_tick_of_runTicks_cons {x : Bool} {xs : List Bool} {s u : State} (h : runTicks (x :: xs) s = .next u) :
    ∃ t, tick x s = .next t ∧ runTicks xs t = .next u := by
  rw [runTicks] at h
  split at h
  · rename_i t htick
    exact ⟨t, htick, h⟩
  · cases h
  · cases h

/-- No run of ticks moves a disabled receiver or enables it (44_pll.md R178; 47_tick.md R240). -/
theorem runTicks_of_disabled {xs : List Bool} {s u : State} (hdisabled : s.rxEnabled = false)
    (h : runTicks xs s = .next u) : SamePll s u ∧ SameReceiver s u ∧ u.rxEnabled = false := by
  induction xs generalizing s with
  | nil =>
    cases h
    exact ⟨⟨rfl, rfl, rfl, rfl, rfl⟩, ⟨rfl, rfl, rfl, rfl, rfl, rfl, rfl, fun _ => rfl⟩, hdisabled⟩
  | cons x xs ih =>
    obtain ⟨t, htick, hrun⟩ := exists_tick_of_runTicks_cons h
    obtain ⟨hpll, hreceiver, henabled, _⟩ := receivePathFrozen x s t (.inl hdisabled) htick
    obtain ⟨hpll', hreceiver', hdisabled'⟩ := ih (henabled.trans hdisabled) hrun
    exact ⟨hpll.trans hpll', hreceiver.trans hreceiver', hdisabled'⟩

/-- Settles O21: RX_STOP disables the receiver, ticks leave it disabled and as it is, and so RX_START discards its
frame. -/
theorem rxStopFreezesReceiver : Obligations.RxStopFreezesReceiver := by
  intro imm8 s
  refine ⟨_, rfl, rfl, fun xs u hrun => ?_⟩
  obtain ⟨hpll, hreceiver, hdisabled⟩ := runTicks_of_disabled rfl hrun
  exact ⟨{ hpll with }, { hreceiver with }, _, execRxStart_of_disabled hdisabled imm8, rfl⟩

/-! ### HAVE_MESSAGE and GET_MESSAGE -/

/-- Settles O22: the response holds `rx_done` as a byte. -/
theorem haveMessageReportsPending : Obligations.HaveMessageReportsPending := by
  intro imm8 s
  have hexec : exec (.haveMessage imm8) s = .next { s with response := [0x00, byteOfBool s.rxDone] } := rfl
  exact ⟨fun hdone => by rw [hexec, hdone]; rfl, fun hdone => by rw [hexec, hdone]; rfl⟩

theorem execGetMessage_of_not_done {s : State} (hdone : s.rxDone = false) (maxLen : Byte) :
    execGetMessage maxLen s = .next (respond .notReady [] s) := by
  rw [execGetMessage, if_neg (by simp [hdone])]

/-- GET_MESSAGE of a pending message of legal length (46_host_commands.md R219). -/
theorem execGetMessage_of_done {s : State} (hdone : s.rxDone = true) (hlow : 3 ≤ s.rxLen.toNat)
    (hhigh : s.rxLen.toNat ≤ 30) (maxLen : Byte) :
    execGetMessage maxLen s = .next (respond .ok
      (BitVec.ofNat 8 (s.messageData maxLen).length :: byteOfBool s.crcOk :: s.messageData maxLen)
      { s with rxDone := false }) := by
  rw [execGetMessage, if_pos hdone, if_neg (Nat.not_lt.mpr hlow), if_neg (Nat.not_lt.mpr hhigh)]

@[simp] theorem messageData_length (s : State) (maxLen : Byte) :
    (s.messageData maxLen).length = min maxLen.toNat (s.rxLen.toNat - 3) := by
  simp [State.messageData, State.rxBytes]

/-- The CRC result runs over the whole frame in `RxBuf` (41_crc.md R125). -/
theorem byteOfBool_crcOk (s : State) :
    byteOfBool s.crcOk = if crcBlock ((List.range s.rxLen.toNat).map s.rxByte) = 0xF0B8 then 1 else 0 := by
  simp [byteOfBool, State.crcOk, State.rxBytes]

/-- Settles O23: the pending flag decides, and retrieving the message clears it. -/
theorem getMessageRetrieves : Obligations.GetMessageRetrieves := by
  intro m s
  refine ⟨fun hdone => execGetMessage_of_not_done hdone m, ?_⟩
  intro hdone hlow hhigh n crcOk t
  have hexec := execGetMessage_of_done hdone (Nat.le_of_succ_le hlow) hhigh m
  rw [messageData_length, byteOfBool_crcOk] at hexec
  exact ⟨hexec, execGetMessage_of_not_done rfl⟩

/-! ### SET_PTT_INVERTED -/

/-- Settles O25: the polarity is the operand's one bit, and the next TX_STOP puts it on the line. -/
theorem setPttInvertedWritesPolarityOnly : Obligations.SetPttInvertedWritesPolarityOnly := by
  intro ignored inv s
  refine ⟨_, rfl, by rw [invOperand_eq_decide]; rfl, fun imm8 => ?_⟩
  exact ⟨_, txStopDeassertsAtOnce imm8 _, invOperand_eq_decide inv⟩

/-! ### READ_STATUS -/

/-- A flag shifted to bit `k` is bit `k` of the byte, and the others are 0. -/
theorem getLsbD_byteOfBool_shiftLeft (b : Bool) {k i : Nat} (hi : i < 8) :
    (byteOfBool b <<< k).getLsbD i = (b && decide (i = k)) := by
  cases b with
  | false => simp [byteOfBool]
  | true =>
    rw [Bool.eq_iff_iff]
    simp [byteOfBool, hi]
    omega

/-- The flags byte, bit by bit (46_host_commands.md R222). -/
theorem getLsbD_flagsByte (s : State) {i : Nat} (hi : i < 8) : (flagsByte s).getLsbD i =
    [s.txActive, s.rxEnabled, s.rxActive, s.rxDone, s.pttInverted, s.txOut, s.pttOut].getD i false := by
  have hfirst := getLsbD_byteOfBool_shiftLeft s.txActive (k := 0) hi
  rw [BitVec.shiftLeft_zero] at hfirst
  simp only [flagsByte, BitVec.getLsbD_or, hfirst, getLsbD_byteOfBool_shiftLeft _ hi]
  interval_cases i <;> simp

theorem execReadStatus_of_reserved {sel : Byte} (hsel : 4 ≤ sel.toNat) (s : State) :
    execReadStatus sel s = .next (respond .illegalCommand [] s) := by
  unfold execReadStatus
  split
  case h_5 => rfl
  all_goals omega

/-- Settles O26: one response for each selector below 4, and one for all the others. -/
theorem readStatusReportsCountersAndFlags : Obligations.ReadStatusReportsCountersAndFlags := by
  intro sel s
  refine ⟨?_, ?_, ?_, ?_, fun hsel => execReadStatus_of_reserved hsel s⟩
  · rintro rfl; rfl
  · rintro rfl; rfl
  · rintro rfl; rfl
  · rintro rfl
    have hbit {i : Nat} (hi : i < 8) := getLsbD_flagsByte s hi
    exact ⟨flagsByte s, rfl, hbit (by decide), hbit (by decide), hbit (by decide), hbit (by decide), hbit (by decide),
      hbit (by decide), hbit (by decide), hbit (by decide)⟩

/-! ### What a command leaves unchanged -/

/-- The header is hardwired, so equal symbol areas read the same everywhere (10_state.md R26). -/
theorem txByte_congr {s t : State} (h : t.txBuf = s.txBuf) (a : Nat) : t.txByte a = s.txByte a := by
  rw [State.txByte, State.txByte, h]

/-- Only SEND writes `TxBuf`, `tx_len` or the held SEND (46_host_commands.md R223). -/
theorem exec_keeps_frame_of_ne_send {i : Instr} {s t : State} (h : exec i s = .next t) (hne : ∀ d, i ≠ .send d) :
    t.txLen = s.txLen ∧ t.held = s.held ∧ t.txBuf = s.txBuf := by
  cases exec_effect h with
  | sendHeld _ _ => exact absurd rfl (hne _)
  | sendAccepted _ _ => exact absurd rfl (hne _)
  | _ => exact ⟨rfl, rfl, rfl⟩

/-- SEND stores its frame's symbols or nothing (46_host_commands.md R211, R212; 42_frame_codec.md R131). -/
theorem exec_send_txByte_outside {d : List Byte} {s t : State} (h : exec (.send d) s = .next t) (hwf : s.txBuf.wf)
    {a : Nat} (ha : ¬ (8 ≤ a ∧ a < 8 + 2 * (d.length + 3))) : t.txByte a = s.txByte a := by
  cases exec_effect h with
  | answered _ _ _ => rfl
  | sendHeld _ _ => rfl
  | sendAccepted _ _ => exact (frameBuild_txByte hwf d a).trans (if_neg ha)

/-- Settles O27: what no command writes, then what a command other than SEND leaves, then what SEND does. -/
theorem commandsLeaveTheRest : Obligations.CommandsLeaveTheRest := by
  intro i s t h
  refine ⟨?pll, ?rxBuf, ?_, ?_, ?_, ?_, ?_, ?_, ?_, ?_, ?_, ?other, ?send⟩
  case pll =>
    rw [exec_frame h]
    exact ⟨rfl, rfl, rfl, rfl, rfl⟩
  case rxBuf =>
    rw [exec_frame h]
    exact fun _ => rfl
  case other =>
    intro hne
    obtain ⟨htxLen, hheld, htxBuf⟩ := exec_keeps_frame_of_ne_send h hne
    exact ⟨htxLen, hheld, txByte_congr htxBuf⟩
  case send =>
    rintro d rfl hwf a ha
    exact exec_send_txByte_outside h hwf ha
  all_goals rw [exec_frame h]

/-- While a frame is in flight no command writes it: SEND holds (20_memory.md R72). -/
theorem exec_keeps_frame_of_active {i : Instr} {s t : State} (h : exec i s = .next t) (hactive : s.txActive = true) :
    t.txLen = s.txLen ∧ t.txBuf = s.txBuf := by
  cases exec_effect h with
  | sendAccepted _ hidle => exact absurd (hactive.symm.trans hidle) nofun
  | _ => exact ⟨rfl, rfl⟩

/-- Settles O50: a held SEND waits for the idle transmitter, no tick writes the frame, and no command does while the
transmitter is active. -/
theorem frameInFlightIsStable : Obligations.FrameInFlightIsStable := by
  intro s t h hactive hreset
  have hkept : t.txLen = s.txLen ∧ t.txBuf = s.txBuf := by
    cases step_effect h with
    | heldSend _ _ hidle _ => exact absurd (hactive.symm.trans hidle) nofun
    | ticked x q _ htick =>
      rw [tick_frame htick]
      exact ⟨rfl, rfl⟩
    | command q i rest _ _ _ hexec => exact (exec_keeps_frame_of_active hexec hactive :)
    | wasReset q hturn => exact absurd hturn (hreset q)
    | interfaceOnly q p r => exact ⟨rfl, rfl⟩
  obtain ⟨htxLen, htxBuf⟩ := hkept
  exact ⟨htxLen, txByte_congr htxBuf⟩

end Sys2Proof.Machine

end

/-! The turns of the host agent, and the end of its stall. -/

section

namespace Sys2Proof.Machine

/-! ### Whose step it is -/

/-- The next turn of the schedule is taken, unless a held SEND goes first (46_host_commands.md R210, R212). -/
theorem step_eq_scheduledStep {s : State} (h : s.held = none ∨ s.txActive = true) : step s = scheduledStep s := by
  rcases h with hfree | hactive
  · rw [step, nextStep, hfree]
  · rw [step, nextStep]
    split
    · exact if_pos hactive
    · rfl

/-- A held SEND goes first once the transmitter is idle (46_host_commands.md R210). -/
theorem step_eq_exec_of_held {s : State} {d : List Byte} (hheld : s.held = some d) (hidle : s.txActive = false) :
    step s = exec (.send d) { s with held := none } := by
  rw [step, nextStep, hheld]
  exact if_neg (by simp [hidle])

theorem scheduledStep_cons {s : State} {turn : Turn} {q : List Turn} (hturn : s.schedule = turn :: q) :
    scheduledStep s = takeTurn turn { s with schedule := q } := by
  rw [scheduledStep, hturn]

/-- A tick turn runs `tick`, also while a held SEND waits (46_host_commands.md R210; 47_tick.md R240). -/
theorem step_eq_tick {s : State} {x : Bool} {q : List Turn} (h : s.held = none ∨ s.txActive = true)
    (hturn : s.schedule = .tick x :: q) : step s = tick x { s with schedule := q } := by
  rw [step_eq_scheduledStep h, scheduledStep_cons hturn, takeTurn]

/-- Settles O5: the host turn decodes its port and issues what it finds. -/
theorem hostTurnRunsDecodedCommand : Obligations.HostTurnRunsDecodedCommand :=
  fun _ _ _ _ hfree hturn hdecode => step_eq_exec_of_decode hfree hturn hdecode

/-- Settles O7: the held SEND before any turn when idle, and a host turn without effect while it waits. -/
theorem heldSendGoesFirst : Obligations.HeldSendGoesFirst := by
  refine ⟨fun s d hheld hidle => step_eq_exec_of_held hheld hidle, fun s d q hheld hactive hturn => ?_⟩
  rw [step_eq_scheduledStep (.inr hactive), scheduledStep_cons hturn, takeTurn]
  exact if_pos (by rw [hheld]; rfl)

/-! ### Reserved opcodes -/

/-- No row of the opcode map has a reserved opcode (30_encoding.md R84). -/
theorem opcodeOf_reserved {op : Byte} (h : op = 0x00 ∨ 0x0A ≤ op.toNat) : opcodeOf op = none := by
  rw [Option.eq_none_iff_forall_ne_some]
  intro o ho
  rw [eq_byte_of_opcodeOf ho] at h
  have hnamed : ¬ (o.byte = 0x00 ∨ 0x0A ≤ o.byte.toNat) := by cases o <;> decide
  exact hnamed h

theorem decode_reserved {op : Byte} (h : op = 0x00 ∨ 0x0A ≤ op.toNat) (imm8 : Byte) (rest : List Byte) :
    decode (op :: imm8 :: rest) = .error (.reservedOpcode op imm8) := by
  rw [decode, opcodeOf_reserved h]

/-- Settles O4: the decoder finds no row for the word, and the host turn answers for it. -/
theorem reservedOpcodeAnswersIllegal : Obligations.ReservedOpcodeAnswersIllegal := by
  intro op imm8 rest q s hop hfree hturn hport
  have hdecode : decode s.port = .error (.reservedOpcode op imm8) := by rw [hport, decode_reserved hop]
  refine ⟨hdecode, ?_⟩
  calc step s = hostTurn { s with schedule := q } := by
        rw [step_eq_scheduledStep (.inl hfree), scheduledStep_cons hturn, takeTurn, hfree]
        rfl
    _ = reservedCommand { s with schedule := q, port := s.port.drop 2 } := by rw [hostTurn, hdecode]
    _ = .next { s with schedule := q, port := rest, response := [0xFF] } := by rw [hport]; rfl

/-! ### A held SEND completes -/

/-- A run of at least one step is a run from the state after that step. -/
theorem run_succ {M : Host.Core} {s t : M.State} (h : M.step s = .next t) (k : Nat) :
    M.run (k + 1) s = M.run k t := by
  rw [Host.Core.run, h]

/-- The accepted SEND at the start of its frame (46_host_commands.md R212). -/
structure Started (d : List Byte) (t : State) : Prop where
  held : t.held = none
  txActive : t.txActive = true
  txIndex : t.txIndex = 0
  txBit : t.txBit = 0
  txSample : t.txSample = 0
  txLen : t.txLen.toNat = 8 + 2 * (d.length + 3)
  response : t.response = [0x00]

/-- The step of a held SEND whose transmitter is idle accepts it. -/
theorem exists_step_started {s : State} {d : List Byte} (hs : s.Inv) (hheld : s.held = some d)
    (hidle : s.txActive = false) : ∃ t, step s = .next t ∧ Started d t := by
  have hlen := hs.held_legal d hheld
  exact ⟨_, (step_eq_exec_of_held hheld hidle).trans (execSend_of_idle hlen hidle),
    rfl, rfl, rfl, rfl, rfl, frameBuild_txLen_toNat hlen _, rfl⟩

theorem tick_keeps_turns {x : Bool} {s t : State} (h : tick x s = .next t) :
    t.held = s.held ∧ t.schedule = s.schedule := by
  rw [tick_frame h]
  exact ⟨rfl, rfl⟩

/-- The ticks left of the frame in flight and one step more start the frame of the held SEND. -/
theorem exists_run_started {xs : List Bool} {s : State} {d : List Byte} {q : List Turn} (hs : s.Inv)
    (hheld : s.held = some d) (hactive : s.txActive = true) (hturns : s.schedule = xs.map Turn.tick ++ q)
    (hxs : s.ticksLeft ≤ xs.length) : ∃ t, Sys2Proof.core.run (s.ticksLeft + 1) s = .next t ∧ Started d t := by
  induction xs generalizing s with
  | nil => exact absurd hxs (Nat.not_succ_le_zero _)
  | cons x xs ih =>
    let s₁ : State := { s with schedule := xs.map Turn.tick ++ q }
    have hs₁ : s₁.Inv := { hs with }
    have hafter {u : State} (htick : tick x s₁ = .next u) (k : Nat) :
        Sys2Proof.core.run (k + 1) s = Sys2Proof.core.run k u :=
      run_succ (M := Sys2Proof.core) ((step_eq_tick (.inr hactive) hturns).trans htick) k
    rcases Nat.lt_or_ge 1 s.ticksLeft with hmore | hlast
    · obtain ⟨u, htick, huactive, huleft⟩ := tick_of_one_lt_ticksLeft hs₁ hactive hmore x
      have hleft : u.ticksLeft + 1 = s.ticksLeft := huleft
      obtain ⟨huheld, huturns⟩ := tick_keeps_turns htick
      rw [List.length_cons] at hxs
      obtain ⟨t, hrun, ht⟩ := ih (tick_inv htick hs₁) (huheld.trans hheld) huactive huturns (by omega)
      exact ⟨t, hleft ▸ (hafter htick _).trans hrun, ht⟩
    · have hone : s.ticksLeft = 1 := Nat.le_antisymm hlast (Nat.succ_pos _)
      have htick := tick_of_ticksLeft_eq_one hs₁ hactive hone x
      obtain ⟨t, hsend, ht⟩ := exists_step_started (tick_inv htick hs₁) hheld rfl
      exact ⟨t, hone ▸ (hafter htick 1).trans (run_succ (M := Sys2Proof.core) hsend 0), ht⟩

/-- Settles O43: the frame in flight ends within 3272 ticks, and the held SEND takes the step after its end. -/
theorem heldSendCompletes : Obligations.HeldSendCompletes := by
  intro s d xs q hs hheld hactive hturns hxs
  have hle := ticksLeft_le hs
  obtain ⟨t, hrun, ht⟩ := exists_run_started hs hheld hactive hturns (hle.trans hxs)
  exact ⟨s.ticksLeft + 1, t, Nat.succ_le_succ hle, hrun, ht.held, ht.txActive, ht.txIndex, ht.txBit, ht.txSample,
    ht.txLen, ht.response⟩

end Sys2Proof.Machine

end

/-! The tick agent's turn, and what a tick of the receive path leaves to the other agent. -/

section

namespace Sys2Proof.Machine

/-- A tick of the receive path takes its sample and writes receive registers only (47_tick.md R240). -/
theorem tick_frame_of_rxRuns {x : Bool} {s t : State} (hruns : s.rxRuns = true) (h : tick x s = .next t) :
    t = { s with
      rxSample := x, rxLastSample := t.rxLastSample, rxRamp := t.rxRamp, rxIntegrator := t.rxIntegrator
      rxBits := t.rxBits, rxBitCount := t.rxBitCount, rxActive := t.rxActive, rxBuf := t.rxBuf, rxCount := t.rxCount
      rxLen := t.rxLen, rxDone := t.rxDone, rxGood := t.rxGood, rxBad := t.rxBad } := by
  rw [tick, if_pos hruns] at h
  exact pllStep_frame h

/-- Settles O34: the tick is one of the receive path, which writes none of these registers but `rx_sample`. -/
theorem receiveTickLeavesTransmitter : Obligations.ReceiveTickLeavesTransmitter := by
  intro x s t henabled hidle h
  rw [tick_frame_of_rxRuns (rxRuns_of_enabled_of_idle henabled hidle) h]
  exact ⟨rfl, ⟨rfl, rfl, rfl, rfl, rfl, rfl, rfl, rfl, fun _ => rfl⟩, ⟨rfl, rfl, rfl, rfl, rfl, rfl, rfl⟩⟩

/-- Settles O6: no held SEND goes first, so the schedule's turn, a tick, is taken. -/
theorem tickTurnRunsTick : Obligations.TickTurnRunsTick :=
  fun _ _ _ hfree hturn => step_eq_tick hfree hturn

end Sys2Proof.Machine

end

/-! What a reset establishes, what a quiescent block keeps, and that the invariants leave no stop. -/

section

namespace Sys2Proof.Machine

/-! ### Reset -/

/-- A reset turn writes every register, also while a held SEND waits (70_reset_and_hazards.md R280). -/
theorem step_eq_resetBlock {s : State} {q : List Turn} (h : s.held = none ∨ s.txActive = true)
    (hturn : s.schedule = .reset :: q) : step s = .next (resetBlock { s with schedule := q }) := by
  rw [step_eq_scheduledStep h, scheduledStep_cons hturn, takeTurn]

/-- After reset the symbol area reads 0 (10_state.md R26). -/
theorem reset_txByte_of_ge {a : Nat} (ha : 8 ≤ a) : State.reset.txByte a = 0 :=
  if_neg (Nat.not_lt.mpr ha)

/-- Settles O9: the reset turn takes every register from the state after reset, which is given field by field. -/
theorem resetWritesEveryRegister : Obligations.ResetWritesEveryRegister := by
  refine ⟨fun s q hfree hturn => ⟨_, step_eq_resetBlock hfree hturn, ?_, ?_, ?_⟩, ?_⟩
  · exact ⟨rfl, rfl, rfl, rfl, rfl, rfl, rfl, rfl, fun _ => rfl⟩
  · exact ⟨rfl, rfl, rfl, rfl, rfl⟩
  · exact ⟨rfl, rfl, rfl, rfl, rfl, rfl, rfl, rfl, rfl, rfl, rfl⟩
  · exact ⟨rfl, rfl, rfl, rfl, rfl, rfl, rfl, rfl, rfl, rfl, rfl, rfl, rfl, rfl, rfl, rfl, rfl, rfl, rfl, rfl, rfl,
      rfl, rfl, fun _ ha => reset_txByte_of_ge ha⟩

/-- Settles O44: a reset establishes the invariants, no SEND is held after it, and PTT is low with the polarity. -/
theorem resetStateMeetsInvariants : Obligations.ResetStateMeetsInvariants :=
  ⟨resetBlock_inv (s := State.reset) nofun, rfl⟩

/-! ### A quiescent block -/

/-- A tick of a quiescent block is a no-op (47_tick.md R240). -/
theorem tick_of_quiescent {s : State} (hdisabled : s.rxEnabled = false) (hidle : s.txActive = false) (x : Bool) :
    tick x s = .next s := by
  have hfrozen : ¬ s.rxRuns = true := by simp [State.rxRuns, hdisabled]
  rw [tick, if_neg hfrozen, if_neg (by simp [hidle])]

/-- Settles O28, by induction on the samples: each tick leaves the state the rest of the run starts from. -/
theorem quiescentBlockKeepsState : Obligations.QuiescentBlockKeepsState := by
  intro xs s hdisabled hidle
  induction xs with
  | nil => rfl
  | cons x xs ih => exact (runTicks_cons (tick_of_quiescent hdisabled hidle x) xs).trans ih

/-! ### No stop under the invariants -/

/-- Under the invariants no tick faults, whichever path it runs (47_tick.md R240). -/
theorem exists_tick_eq_next_of_inv {s : State} (hs : s.Inv) (x : Bool) : ∃ t, tick x s = .next t := by
  cases hactive : s.txActive with
  | true =>
    rcases Nat.lt_or_ge 1 s.ticksLeft with hmore | hlast
    · obtain ⟨t, htick, _⟩ := tick_of_one_lt_ticksLeft hs hactive hmore x
      exact ⟨t, htick⟩
    · exact ⟨_, tick_of_ticksLeft_eq_one hs hactive (Nat.le_antisymm hlast (Nat.succ_pos _)) x⟩
  | false =>
    cases henabled : s.rxEnabled with
    | true => exact exists_tick_eq_next hs (rxRuns_of_enabled_of_idle henabled hactive) x
    | false => exact ⟨s, tick_of_quiescent henabled hactive x⟩

/-- SEND never faults: it is rejected, held or accepted (46_host_commands.md R211, R212). -/
theorem exists_execSend_eq_next (d : List Byte) (s : State) : ∃ t, execSend d s = .next t := by
  rcases Nat.lt_or_ge 27 d.length with hlong | hlen
  · exact ⟨_, execSend_of_long hlong s⟩
  · cases hactive : s.txActive with
    | true => exact ⟨_, execSend_of_active hlen hactive⟩
    | false => exact ⟨_, execSend_of_idle hlen hactive⟩

/-- Under the invariants GET_MESSAGE finds a pending message of legal length (10_state.md R52 item 2). -/
theorem exists_execGetMessage_eq_next {s : State} (hs : s.Inv) (maxLen : Byte) :
    ∃ t, execGetMessage maxLen s = .next t := by
  cases hdone : s.rxDone with
  | true =>
    obtain ⟨_, _, hlow⟩ := hs.message hdone
    have hle := hs.rxLen_le_rxCount
    have hlegal := hs.rxCount_legal
    exact ⟨_, execGetMessage_of_done hdone (by omega) (by omega) maxLen⟩
  | false => exact ⟨_, execGetMessage_of_not_done hdone maxLen⟩

/-- Under the invariants every command completes or is held (60_exceptions.md R250). -/
theorem exists_exec_eq_next {s : State} (hs : s.Inv) (i : Instr) : ∃ t, exec i s = .next t := by
  cases i with
  | send d => exact exists_execSend_eq_next d s
  | getMessage maxLen => exact exists_execGetMessage_eq_next hs maxLen
  | readStatus sel =>
    obtain ⟨c, d, hexec⟩ := execReadStatus_frame sel s
    exact ⟨_, hexec⟩
  | _ => exact ⟨_, rfl⟩

/-- Under the invariants a host turn never stops the machine, whatever stands on the port. -/
theorem exists_hostTurn_eq_next {s : State} (hs : s.Inv) : ∃ t, hostTurn s = .next t := by
  have hissued (rest : List Byte) : ({ s with port := rest } : State).Inv := { hs with }
  rw [hostTurn]
  split
  · exact exists_exec_eq_next (hissued _) _
  · exact ⟨_, rfl⟩
  · exact ⟨_, rfl⟩

/-- Under the invariants no turn stops the machine. -/
theorem exists_takeTurn_eq_next {s : State} (hs : s.Inv) (turn : Turn) : ∃ t, takeTurn turn s = .next t := by
  cases turn with
  | tick x => exact exists_tick_eq_next_of_inv hs x
  | host =>
    rw [takeTurn]
    split
    · exact ⟨s, rfl⟩
    · exact exists_hostTurn_eq_next hs
  | reset => exact ⟨_, rfl⟩

/-- Under the invariants the schedule never stops the machine, with no turn left either. -/
theorem exists_scheduledStep_eq_next {s : State} (hs : s.Inv) : ∃ t, scheduledStep s = .next t := by
  have hturns (q : List Turn) : ({ s with schedule := q } : State).Inv := { hs with }
  rw [scheduledStep]
  split
  · exact exists_takeTurn_eq_next (hturns _) _
  · exact ⟨s, rfl⟩

/-- Settles O46: a held SEND whose transmitter is idle is answered, and no turn of the schedule stops the machine. -/
theorem noFatalErrorPath : Obligations.NoFatalErrorPath := by
  intro s hs
  rw [step, nextStep]
  split
  · split
    · exact exists_scheduledStep_eq_next hs
    · exact exists_execSend_eq_next _ _
  · exact exists_scheduledStep_eq_next hs

end Sys2Proof.Machine

end
